-- ==== Sys2Proof/Word.lean ====
section
/-! DEFINITION. The words of the machine: 8-bit bytes and 16-bit addresses (00_scope.md R11: all register
arithmetic is unsigned and modular). -/

namespace Sys2Proof

/-- A byte: the width of A, X, Y, SP, P and of every bus access (R20, R26, R78). -/
abbrev Byte := BitVec 8

/-- A CPU address or the program counter (R23, R60). -/
abbrev Word := BitVec 16

end Sys2Proof
end

