-- ==== Sys2Proof/Config.lean ====
section
/-! DEFINITION. What is fixed for one machine: the named parameters of 00_scope.md R8, with the values the spec's
decisions give them as defaults, and the free functions that stand for what the spec leaves open (the five
operations of a cartridge with another mapper, R360 and R366; one row number of a sprite, R342). -/

namespace Sys2Proof

/-- The four mirroring modes of 61_platform_devices.md R314, R360. -/
inductive Mirroring
  | horizontal
  | vertical
  | singleScreen
  | fourScreen
  deriving DecidableEq, Repr, Inhabited

/-- The state of its own that a cartridge with another mapper keeps beside its bank-select state: its RAM, and whatever
else its mapper holds (a latch, a counter), as bytes (R48, R360, R366). -/
structure OwnState where
  prgRam : List Byte
  chrRam : List Byte
  rest   : List Byte
  deriving DecidableEq, Repr, Inhabited

/-- A cartridge with a mapper other than the no-bank-switching one, as the launch supplies it (R48, R360, R366): which
one it is, its ROM bytes, its bank-select state (R84) and the rest of its own state. Its five operations are the free
functions of Config below. -/
structure OtherCart where
  id     : Nat
  prgRom : List Byte
  chrRom : List Byte
  bank   : List Byte
  own    : OwnState
  deriving DecidableEq, Repr, Inhabited

/-- What a write leaves of such a cartridge's state. -/
structure OtherWritten where
  bank : List Byte
  own  : OwnState
  deriving DecidableEq, Repr, Inhabited

/-- What a reset leaves of such a cartridge's state but for its RAM, which a reset keeps (R50). -/
structure OtherReset where
  bank : List Byte
  rest : List Byte
  deriving DecidableEq, Repr, Inhabited

/-- The named parameters a machine is built with (R8; U14 of 93_implementation_defined.md), each in the range R8
gives it. -/
structure Params where
  /-- `PRERENDER_CLEAR_DOT`: the dot of scanline 261 at which the status flags are cleared (D22). -/
  prerenderClearDot : Fin 2
  /-- `SINGLE_SCREEN_PAGE`: the 1 KB page of single-screen mirroring (D30). -/
  singleScreenPage : Fin 2
  /-- `RESET_P`: `P` after reset (D13). -/
  resetP : Byte
  /-- `RESET_SP`: `SP` after reset (D13). -/
  resetSP : Byte
  /-- `DMA_CYCLES`: CPU cycles added by a write to 0x4014 (D18). -/
  dmaCycles : Nat
  deriving DecidableEq, Repr

/-- The parameters at the values R8 fixes. -/
def Params.default : Params where
  prerenderClearDot := 1
  singleScreenPage  := 0
  resetP            := 0x24
  resetSP           := 0xFD
  dmaCycles         := 513

namespace Config

/-- What the no-bank-switching cartridge reads as where nothing answers (R361). -/
def emptyCartByte : Byte := 0

/-- Free: `read_prg(addr)` of another mapper (R366): the byte, and what it leaves of the cartridge's own state (R80:
"mapper-specific"). Log entry 2. -/
opaque otherReadPrg (c : OtherCart) (addr : Word) : Byte × OwnState

/-- Free: `write_prg(addr, v)` of another mapper (R366; R84: "A mapper write to a bank-select region mutates internal
bank-index state"). Log entry 2. -/
opaque otherWritePrg (c : OtherCart) (addr : Word) (v : Byte) : OtherWritten

/-- Free: `read_chr(a)` of another mapper (R366): the byte, and what it leaves of the own state. Log entry 2. -/
opaque otherReadChr (c : OtherCart) (a : Nat) : Byte × OwnState

/-- Free: `write_chr(a, v)` of another mapper (R366). Log entry 2. -/
opaque otherWriteChr (c : OtherCart) (a : Nat) (v : Byte) : OtherWritten

/-- Free: `mirroring()` of another mapper (R366). Log entry 2. -/
opaque otherMirroring (c : OtherCart) : Mirroring

/-- Free: the bank state, and the rest of the own state but for the RAM, after a reset (91_not_in_source.md N21: the
bank state is unspecified). Log entry 2. -/
opaque otherReset (c : OtherCart) : OtherReset

/-- Free: the pattern row of a sprite where R342's subtraction falls below 0 (line `s`, OAM `y`, height `h`,
vertical flip). Log entry 4. -/
opaque spriteRowBelowZero (s y h : Nat) (flip : Bool) : Nat

end Config

end Sys2Proof
end

