-- ==== Sys2Proof/Machine/State.lean ====
section
/-! DEFINITION. The state of the machine as plain data: every piece of state that 10_state.md R45 to R48 name, the
reasons a step can stop, and the state after reset (10_state.md R50, 70_reset_and_hazards.md R380). -/

namespace Sys2Proof.Machine

/-- A memory: (address, byte) pairs in one canonical form (`Memory.wf`); an unlisted address reads 0. -/
abbrev Memory := List Host.Cell

/-- A frame buffer: (256 * y + x, colour index) pairs in the same canonical form (R47, R340). -/
abbrev Picture := List (Nat × BitVec 6)

/-- The record of an illegal opcode (R38). -/
structure HaltRecord where
  addr   : Word
  opcode : Byte
  deriving DecidableEq, Repr

/-- The CPU (R45). -/
structure Cpu where
  a          : Byte
  x          : Byte
  y          : Byte
  sp         : Byte
  pc         : Word
  p          : Byte
  nmiPending : Bool
  irqPending : Bool
  halted     : Option HaltRecord
  cycles     : Nat
  deriving DecidableEq, Repr

/-- One selected sprite (R47 `line_sprites`, R339). -/
structure Sprite where
  index : Nat
  y     : Byte
  tile  : Byte
  attr  : Byte
  x     : Byte
  deriving DecidableEq, Repr

/-- The PPU (R47). -/
structure Ppu where
  scanline       : Nat
  dot            : Nat
  frame          : Nat
  nt             : Memory
  pal            : Memory
  oam            : Memory
  v              : BitVec 15
  t              : BitVec 15
  x              : BitVec 3
  w              : Bool
  ctrl           : Byte
  mask           : Byte
  vblank         : Bool
  sprite0Hit     : Bool
  spriteOverflow : Bool
  oamAddr        : Byte
  readBuffer     : Byte
  lineSprites    : List Sprite
  nmiRequest     : Bool
  back           : Picture
  front          : Picture
  deriving DecidableEq, Repr

/-- One controller (R48, R351). -/
structure Controller where
  buttons : Byte
  shift   : Byte
  index   : Nat
  strobe  : Bool
  deriving DecidableEq, Repr

/-- The no-bank-switching cartridge (R48, R360): the loader's structured cartridge. Its bank-select state is empty. -/
structure PlainCart where
  prgRom    : Memory
  prgLen    : Nat
  chr       : Memory
  chrLen    : Nat
  chrIsRam  : Bool
  prgRam    : Option Memory
  mirroring : Mirroring
  deriving DecidableEq, Repr

/-- The cartridge (R360): the one variant the spec defines, or one with another mapper, whose five operations are
supplied with it (R366). -/
inductive Cart
  | plain (c : PlainCart)
  | other (c : OtherCart)
  deriving DecidableEq, Repr

/-- The mapper variant of a cartridge (R360, R366): the one the spec defines, or another one by number. -/
inductive Mapper
  | noBankSwitching
  | other (id : Nat)
  deriving DecidableEq, Repr

/-- The inputs of one boundary (R285 `env`). -/
structure EnvInput where
  buttons1   : Byte
  buttons2   : Byte
  irqRelease : Bool
  irqLevel   : Bool
  deriving DecidableEq, Repr

/-- One act of the host between two steps (R290): the inputs of the next system step, or a reset. -/
inductive HostInput
  | boundary (env : EnvInput)
  | reset
  deriving DecidableEq, Repr

/-- The machine (R45 to R48), with the parameters it was built with (R8), which no step changes. `inputs` is the model's
own field: the host's acts to come, oldest first, one for each step; when it is empty the boundary is quiet (log
entry 3). -/
structure State where
  cpu    : Cpu
  ram    : Memory
  ppu    : Ppu
  pad1   : Controller
  pad2   : Controller
  cart   : Cart
  inputs : List HostInput
  params : Params
  deriving DecidableEq, Repr

/-- The reasons a step stops. -/
inductive Fault
  /-- Raised by the fetch of an opcode byte that R128 lists as illegal (R252). Carries the address, the byte and the
  state in which the machine is then stuck (`halted` set), for inspection. Safe: the spec's own fault. -/
  | illegalOpcode (addr : Word) (opcode : Byte) (stuck : State)
  /-- Answered by the step of a machine that an illegal opcode has halted: there is no step until reset
  (R251, R252, R285). Safe: the spec's own stuck state. -/
  | halted (addr : Word) (opcode : Byte)
  deriving DecidableEq, Repr

/-- The reasons an instruction has no meaning in the model. -/
inductive Refusal
  /-- An instruction of the opcode table that is not modelled yet: no arm of `exec` answers it. Safe. -/
  | notModelled (mnemonic : String)
  deriving DecidableEq, Repr

/-- The cartridge of the reset state: the no-bank-switching cartridge of the test vectors' standard launch
(16 KB PRG ROM, no PRG RAM, CHR ROM, horizontal mirroring) with an empty image. Log entry 1. -/
def PlainCart.empty : PlainCart where
  prgRom    := []
  prgLen    := 16384
  chr       := []
  chrLen    := 8192
  chrIsRam  := false
  prgRam    := none
  mirroring := .horizontal

/-- The CPU right after reset (R50), but for `PC`. -/
def Cpu.afterReset (cfg : Params) (pc : Word) : Cpu where
  a          := 0
  x          := 0
  y          := 0
  sp         := cfg.resetSP
  pc         := pc
  p          := cfg.resetP
  nmiPending := false
  irqPending := false
  halted     := none
  cycles     := 7

/-- The PPU with every element cleared (R380 part 1), at the position given. -/
def Ppu.clearedAt (dot : Nat) : Ppu where
  scanline       := 0
  dot            := dot
  frame          := 0
  nt             := []
  pal            := []
  oam            := []
  v              := 0
  t              := 0
  x              := 0
  w              := false
  ctrl           := 0
  mask           := 0
  vblank         := false
  sprite0Hit     := false
  spriteOverflow := false
  oamAddr        := 0
  readBuffer     := 0
  lineSprites    := []
  nmiRequest     := false
  back           := []
  front          := []

/-- A controller after reset: `buttons` is the host's and is kept (R50, R380). -/
def Controller.afterReset (buttons : Byte) : Controller where
  buttons := buttons
  shift   := 0
  index   := 0
  strobe  := false

/-- The machine right after reset (R50), the parameters at the values R8 fixes: the 7 cycles and the 21 dots of R380 are past, so the PPU is at (0, 21).
The reset vector of the empty image reads 0x0000 (log entry 1). -/
def State.reset : State where
  cpu    := Cpu.afterReset .default 0x0000
  ram    := []
  ppu    := Ppu.clearedAt 21
  pad1   := Controller.afterReset 0
  pad2   := Controller.afterReset 0
  cart   := .plain .empty
  inputs := []
  params := .default

end Sys2Proof.Machine
end

