-- ==== Sys2Proof/Machine/Controller.lean ====
section
/-! DEFINITION. The controllers (61_platform_devices.md R350 to R353). -/

namespace Sys2Proof.Machine

/-- `set_buttons(mask)` (R350). -/
def Controller.setButtons (c : Controller) (mask : Byte) : Controller := { c with buttons := mask }

/-- `write_strobe(bit)` (R352): the shift register is reloaded at the 0-to-1 transition only. -/
def Controller.writeStrobe (c : Controller) (bit : Bool) : Controller :=
  if bit ∧ ¬ c.strobe then { c with shift := c.buttons, index := 0, strobe := bit }
  else { c with strobe := bit }

/-- `read()` (R353): the bit, and the controller after the read. -/
def Controller.read (c : Controller) : Bool × Controller :=
  if c.strobe then (c.shift.getLsbD 0, c)
  else if c.index < 8 then (c.shift.getLsbD c.index, { c with index := c.index + 1 })
  else (true, c)

/-- Reset (R50, R380): `buttons` is kept. -/
def Controller.reset (c : Controller) : Controller := Controller.afterReset c.buttons

end Sys2Proof.Machine
end

