-- ==== Sys2Proof/Machine/Bits.lean ====
section
/-! DEFINITION. Bit-field, byte-order and sign-extension helpers (00_scope.md R11, R12). -/

namespace Sys2Proof.Machine

/-- `hi(w)` (R12). -/
def hi (w : Word) : Byte := w.extractLsb' 8 8

/-- `lo(w)` (R12). -/
def lo (w : Word) : Byte := w.extractLsb' 0 8

/-- `w16(h, l)` (R12): the value `h * 256 + l`. -/
def w16 (h l : Byte) : Word := h ++ l

/-- `sext_16(v)` (R12). -/
def sext16 (v : Byte) : Word := v.signExtend 16

/-- `zext_16(v)` (R12). -/
def zext16 (v : Byte) : Word := v.setWidth 16

/-- `zext_8` of one bit (R66). -/
def bitByte (b : Bool) : Byte := (BitVec.ofBool b).setWidth 8

/-- `v[lo+k-1:lo] <- f` (R11, R12): the field of `k` bits from bit `at0` is replaced, every other bit kept. -/
def setField {n k : Nat} (v : BitVec n) (at0 : Nat) (f : BitVec k) : BitVec n :=
  (v &&& ~~~(((BitVec.allOnes k).setWidth n) <<< at0)) ||| ((f.setWidth n) <<< at0)

/-- Whether two addresses lie in different pages (`a[15:8] != b[15:8]`, R112, R117). -/
def pageDiffers (a b : Word) : Bool := hi a != hi b

end Sys2Proof.Machine
end

