-- ==== Sys2Proof/Machine/Flags.lean ====
section
/-! DEFINITION. The status register `P` and every flag computation (10_state.md R26 to R33; the arithmetic of
42_arithmetic.md and the carries of 43_logic_shift.md). -/

namespace Sys2Proof.Machine

/-- The bits of `P` (R26). -/
inductive Flag
  | n
  | v
  | u
  | b
  | d
  | i
  | z
  | c
  deriving DecidableEq, Repr

/-- The bit position of a flag (R26). -/
def Flag.bit : Flag → Nat
  | .n => 7
  | .v => 6
  | .u => 5
  | .b => 4
  | .d => 3
  | .i => 2
  | .z => 1
  | .c => 0

/-- `P.F`. -/
def Flag.get (f : Flag) (p : Byte) : Bool := p.getLsbD f.bit

/-- `P.F <- v`. -/
def Flag.put (f : Flag) (v : Bool) (p : Byte) : Byte := setField p f.bit (BitVec.ofBool v)

/-- `SetZN(v)` (R12, R27). -/
def setZN (v p : Byte) : Byte := Flag.n.put (v.getLsbD 7) (Flag.z.put (decide (v = 0)) p)

/-! ### Status bytes on the stack (R31) -/

/-- The byte PHP and BRK push: B = 1, U = 1. -/
def statusPushedByInstruction (p : Byte) : Byte := p ||| 0x30

/-- The byte NMI and IRQ entry push: B = 0, U = 1. -/
def statusPushedByInterrupt (p : Byte) : Byte := (p &&& 0xEF) ||| 0x20

/-- What PLP and RTI make of the pulled byte `m`: the stored bits 5 and 4 are kept. -/
def statusPulled (m p : Byte) : Byte := (m &&& 0xCF) ||| (p &&& 0x30)

/-! ### Arithmetic (R171 to R175) -/

/-- `zext_9(a) + zext_9(m) + carry` (R171). -/
def sum9 (a m : Byte) (carry : Bool) : BitVec 9 :=
  a.setWidth 9 + m.setWidth 9 + (BitVec.ofBool carry).setWidth 9

/-- The result byte of an addition (R171). -/
def addResult (a m : Byte) (carry : Bool) : Byte := (sum9 a m carry).setWidth 8

/-- The carry out of an addition (R171). -/
def addCarry (a m : Byte) (carry : Bool) : Bool := (sum9 a m carry).getLsbD 8

/-- The signed overflow of an addition (R171). -/
def addOverflow (a m : Byte) (carry : Bool) : Bool :=
  let r := addResult a m carry
  ((a ^^^ r) &&& (m ^^^ r)).getLsbD 7

/-- `P` after an addition (R171): C, V, then Z and N of the result. -/
def addStatus (a m p : Byte) : Byte :=
  let carry := Flag.c.get p
  setZN (addResult a m carry) (Flag.v.put (addOverflow a m carry) (Flag.c.put (addCarry a m carry) p))

/-- `P` after a compare of register value `r` with `m` (R173 to R175). -/
def compareStatus (r m p : Byte) : Byte :=
  Flag.n.put ((r - m).getLsbD 7) (Flag.z.put (decide (r = m)) (Flag.c.put (decide (m.toNat ≤ r.toNat)) p))

/-- `P` after BIT (R193). -/
def bitTestStatus (a m p : Byte) : Byte :=
  Flag.v.put (m.getLsbD 6) (Flag.n.put (m.getLsbD 7) (Flag.z.put (decide (a &&& m = 0)) p))

/-! ### What a read-modify-write instruction makes of its operand `m` and of `P` (R176, R179, R194 to R197) -/

/-- INC (R176). -/
def incByte (m p : Byte) : Byte × Byte := (m + 1, setZN (m + 1) p)

/-- DEC (R179). -/
def decByte (m p : Byte) : Byte × Byte := (m - 1, setZN (m - 1) p)

/-- ASL (R194). -/
def aslByte (m p : Byte) : Byte × Byte :=
  let r := m <<< 1
  (r, setZN r (Flag.c.put (m.getLsbD 7) p))

/-- LSR (R195). -/
def lsrByte (m p : Byte) : Byte × Byte :=
  let r := m >>> 1
  (r, setZN r (Flag.c.put (m.getLsbD 0) p))

/-- ROL (R196): the old carry enters bit 0. -/
def rolByte (m p : Byte) : Byte × Byte :=
  let r := (m <<< 1) ||| bitByte (Flag.c.get p)
  (r, setZN r (Flag.c.put (m.getLsbD 7) p))

/-- ROR (R197): the old carry enters bit 7. -/
def rorByte (m p : Byte) : Byte × Byte :=
  let r := (m >>> 1) ||| (bitByte (Flag.c.get p) <<< 7)
  (r, setZN r (Flag.c.put (m.getLsbD 0) p))

end Sys2Proof.Machine
end

