-- ==== Sys2Proof/Machine/Memory.lean ====
section
/-! DEFINITION. Memories as canonical lists: reading, writing and the canonical form. One definition serves the byte
memories (RAM, NT, PAL, OAM, PRG, CHR) and the 6-bit frame buffers. -/

namespace Sys2Proof.Machine

/-- What an unlisted cell reads as: 0, the value of cleared memory (R50). For a cartridge's bytes it is log entry 1. -/
abbrev Memory.blank {w : Nat} : BitVec w := 0

/-- The value at an address. -/
def Memory.read {w : Nat} : List (Nat × BitVec w) → Nat → BitVec w
  | [], _ => Memory.blank
  | (k, u) :: m, a => if k = a then u else Memory.read m a

/-- Writing keeps the canonical form: a cell that would hold the blank value is not listed. -/
def Memory.write {w : Nat} : List (Nat × BitVec w) → Nat → BitVec w → List (Nat × BitVec w)
  | [], a, v => if v = Memory.blank then [] else [(a, v)]
  | (k, u) :: m, a, v =>
    if k < a then (k, u) :: Memory.write m a v
    else if k = a then (if v = Memory.blank then m else (a, v) :: m)
    else if v = Memory.blank then (k, u) :: m else (a, v) :: (k, u) :: m

/-- The canonical form: addresses strictly rising, no blank cell listed. -/
abbrev Memory.wf {w : Nat} (m : List (Nat × BitVec w)) : Prop :=
  m.Pairwise (fun c d => c.1 < d.1) ∧ ∀ c ∈ m, c.2 ≠ Memory.blank

/-- Every listed address is below `n`. -/
abbrev Memory.below {w : Nat} (n : Nat) (m : List (Nat × BitVec w)) : Prop :=
  ∀ c ∈ m, c.1 < n

end Sys2Proof.Machine
end

