-- ==== Sys2Proof/Machine/Cart.lean ====
section
/-! DEFINITION. The cartridge's five operations (61_platform_devices.md R360): the no-bank-switching variant in full
(R361 to R365), and as a parameter the five operations of any other mapper, free functions of Config over the supplied
cartridge (R84, R366; log entry 2). -/

namespace Sys2Proof.Machine

/-! ### The no-bank-switching variant -/

/-- `read_prg(addr)` (R361). -/
def PlainCart.readPrg (c : PlainCart) (addr : Word) : Byte :=
  if 0x8000 ≤ addr.toNat then Memory.read c.prgRom ((addr.toNat - 0x8000) % c.prgLen)
  else if 0x6000 ≤ addr.toNat then
    match c.prgRam with
    | some m => Memory.read m (addr.toNat - 0x6000)
    | none   => Config.emptyCartByte
  else Config.emptyCartByte

/-- A store to PRG RAM byte `n`, ignored when there is no PRG RAM (R362). -/
def PlainCart.prgRamWrite (c : PlainCart) (n : Nat) (v : Byte) : PlainCart :=
  match c.prgRam with
  | some m => { c with prgRam := some (Memory.write m (n % 8192) v) }
  | none   => c

/-- `write_prg(addr, v)` (R362). -/
def PlainCart.writePrg (c : PlainCart) (addr : Word) (v : Byte) : PlainCart :=
  if 0x6000 ≤ addr.toNat ∧ addr.toNat ≤ 0x7FFF then c.prgRamWrite (addr.toNat - 0x6000) v else c

/-- `read_chr(a)` (R363). -/
def PlainCart.readChr (c : PlainCart) (a : Nat) : Byte := Memory.read c.chr a

/-- `write_chr(a, v)` (R364). -/
def PlainCart.writeChr (c : PlainCart) (a : Nat) (v : Byte) : PlainCart :=
  if c.chrIsRam then { c with chr := Memory.write c.chr a v } else c

/-! ### Another mapper: its supplied operations on its own state -/

/-- `read_prg(addr)` (R366): the byte, and the cartridge after its mapper-specific side effect (R80). ROM and the bank
state are kept: only a write switches windows (R84). -/
def otherReadPrg (c : OtherCart) (addr : Word) : Byte × OtherCart :=
  ((Config.otherReadPrg c addr).1, { c with own := (Config.otherReadPrg c addr).2 })

/-- `write_prg(addr, v)` (R84, R366). ROM is kept. -/
def otherWritePrg (c : OtherCart) (addr : Word) (v : Byte) : OtherCart :=
  { c with bank := (Config.otherWritePrg c addr v).bank, own := (Config.otherWritePrg c addr v).own }

/-- `read_chr(a)` (R366), with its side effect, as `readPrg`. -/
def otherReadChr (c : OtherCart) (a : Nat) : Byte × OtherCart :=
  ((Config.otherReadChr c a).1, { c with own := (Config.otherReadChr c a).2 })

/-- `write_chr(a, v)` (R366). ROM is kept. -/
def otherWriteChr (c : OtherCart) (a : Nat) (v : Byte) : OtherCart :=
  { c with bank := (Config.otherWriteChr c a v).bank, own := (Config.otherWriteChr c a v).own }

/-! ### Any cartridge -/

/-- `read_prg(addr)`: the byte, and the cartridge after the read (R361: no side effect; R366). -/
def Cart.readPrg (c : Cart) (addr : Word) : Byte × Cart :=
  match c with
  | .plain p => (p.readPrg addr, c)
  | .other o => ((otherReadPrg o addr).1, .other (otherReadPrg o addr).2)

/-- `write_prg(addr, v)` (R362, R366). -/
def Cart.writePrg (c : Cart) (addr : Word) (v : Byte) : Cart :=
  match c with
  | .plain p => .plain (p.writePrg addr v)
  | .other o => .other (otherWritePrg o addr v)

/-- `read_chr(a)`: the byte, and the cartridge after the read (R363: no side effect; R366). -/
def Cart.readChr (c : Cart) (a : Nat) : Byte × Cart :=
  match c with
  | .plain p => (p.readChr a, c)
  | .other o => ((otherReadChr o a).1, .other (otherReadChr o a).2)

/-- `write_chr(a, v)` (R364, R366). -/
def Cart.writeChr (c : Cart) (a : Nat) (v : Byte) : Cart :=
  match c with
  | .plain p => .plain (p.writeChr a v)
  | .other o => .other (otherWriteChr o a v)

/-- `mirroring()` (R365, R366). -/
def Cart.mirroringMode (c : Cart) : Mirroring :=
  match c with
  | .plain p => p.mirroring
  | .other o => Config.otherMirroring o

/-- The mapper of a cartridge. -/
def Cart.mapper (c : Cart) : Mapper :=
  match c with
  | .plain _ => .noBankSwitching
  | .other o => .other o.id

/-- The cartridge as a launch supplies it at power-on: CHR RAM is zero (R364, R381); the saved content of PRG RAM and the
ROM are the image's. -/
def Cart.atPowerOn (c : Cart) : Cart :=
  match c with
  | .plain p => .plain (if p.chrIsRam then { p with chr := [] } else p)
  | .other o => .other { o with own := { o.own with chrRam := o.own.chrRam.map fun _ => 0 } }

/-- What a reset does to the cartridge: RAM untouched (R50, R380); the bank state of another mapper, and the rest of its
own state, are not specified (N21; log entry 2). -/
def Cart.afterReset (c : Cart) : Cart :=
  match c with
  | .plain _ => c
  | .other o => .other { o with bank := (Config.otherReset o).bank, own := { o.own with rest := (Config.otherReset o).rest } }

/-! ### What a read can change -/

/-- The part of a cartridge that a read may change: its own state beside ROM and the bank state (R80, R84); nothing of the
no-bank-switching variant. -/
def Cart.own (c : Cart) : OwnState :=
  match c with
  | .plain _ => ⟨[], [], []⟩
  | .other o => o.own

/-- The cartridge with that part replaced; the no-bank-switching one has none, and stays as it is. -/
def Cart.withOwn (c : Cart) (e : OwnState) : Cart :=
  match c with
  | .plain _ => c
  | .other o => .other { o with own := e }

end Sys2Proof.Machine
end

