-- ==== Sys2Proof/Machine/Ppu.lean ====
section
/-! DEFINITION. The PPU as the CPU sees it: its memories and address map (61_platform_devices.md R310 to R315), its
registers (R320 to R331) and the scroll fields of `v` and `t` (R335). -/

namespace Sys2Proof.Machine

/-- A PPU address: 14 bits (R61). -/
abbrev PpuAddr := BitVec 14

/-! ### The address map -/

/-- The 1 KB page of nametable `table` (0..3) under a mirroring mode (R314). -/
def nametablePage (cfg : Params) (mode : Mirroring) (table : Nat) : Nat :=
  match mode with
  | .horizontal   => table / 2
  | .vertical     => table % 2
  | .singleScreen => cfg.singleScreenPage
  | .fourScreen   => table

/-- `NtOffset(a)` (R314): `table` is `a[11:10]`, the offset in it `a[9:0]`. -/
def ntOffset (cfg : Params) (mode : Mirroring) (a : PpuAddr) : Nat :=
  nametablePage cfg mode (a.toNat / 1024 % 4) * 1024 + a.toNat % 1024

/-- `PalIndex(a)` (R315). -/
def palIndex (a : PpuAddr) : Nat :=
  let i := a.toNat % 32
  if i = 0x10 ∨ i = 0x14 ∨ i = 0x18 ∨ i = 0x1C then i - 0x10 else i

/-- `PpuRead(a)` (R312): the byte, and the cartridge after a CHR read. -/
def ppuRead (cfg : Params) (c : Cart) (p : Ppu) (a : PpuAddr) : Byte × Cart :=
  if a.toNat ≤ 0x1FFF then c.readChr a.toNat
  else if a.toNat ≤ 0x3EFF then (Memory.read p.nt (ntOffset cfg c.mirroringMode (a &&& 0x2FFF)), c)
  else (Memory.read p.pal (palIndex a), c)

/-- `PpuWrite(a, v)` (R313): the PPU and the cartridge (CHR RAM) after it. -/
def ppuWrite (cfg : Params) (c : Cart) (p : Ppu) (a : PpuAddr) (v : Byte) : Ppu × Cart :=
  if a.toNat ≤ 0x1FFF then (p, c.writeChr a.toNat v)
  else if a.toNat ≤ 0x3EFF then
    ({ p with nt := Memory.write p.nt (ntOffset cfg c.mirroringMode (a &&& 0x2FFF)) v }, c)
  else ({ p with pal := Memory.write p.pal (palIndex a) (v &&& 0x3F) }, c)

/-! ### The fields of `v` and `t` (R335) -/

/-- `[4:0]` coarse X. -/
def coarseX (v : BitVec 15) : BitVec 5 := v.extractLsb' 0 5

/-- `[9:5]` coarse Y. -/
def coarseY (v : BitVec 15) : BitVec 5 := v.extractLsb' 5 5

/-- `[10]` horizontal nametable. -/
def nametableX (v : BitVec 15) : BitVec 1 := v.extractLsb' 10 1

/-- `[11]` vertical nametable. -/
def nametableY (v : BitVec 15) : BitVec 1 := v.extractLsb' 11 1

/-- `[14:12]` fine Y. -/
def fineY (v : BitVec 15) : BitVec 3 := v.extractLsb' 12 3

/-- `IncrementY()` on `v` (R335). -/
def incrementY (v : BitVec 15) : BitVec 15 :=
  if (fineY v).toNat < 7 then setField v 12 (fineY v + 1)
  else
    let v0 := setField v 12 (0 : BitVec 3)
    if (coarseY v).toNat = 29 then setField (setField v0 5 (0 : BitVec 5)) 11 (1 - nametableY v)
    else if (coarseY v).toNat = 31 then setField v0 5 (0 : BitVec 5)
    else setField v0 5 (coarseY v + 1)

/-- `CopyX()` (R335): the horizontal fields of `t` into `v`. -/
def copyX (v t : BitVec 15) : BitVec 15 :=
  setField (setField v 0 (coarseX t)) 10 (nametableX t)

/-- `CopyY()` (R335): the vertical fields of `t` into `v`. -/
def copyY (v t : BitVec 15) : BitVec 15 :=
  setField (setField (setField v 5 (coarseY t)) 11 (nametableY t)) 12 (fineY t)

/-! ### The registers -/

/-- The eight PPU registers (R320 to R328; their indices in 10_state.md R35). -/
inductive PpuReg
  | ppuctrl
  | ppumask
  | ppustatus
  | oamaddr
  | oamdata
  | ppuscroll
  | ppuaddr
  | ppudata
  deriving DecidableEq, Repr

/-- The register at index `addr & 7` (R65, R69). -/
def PpuReg.ofIndex (i : BitVec 3) : PpuReg :=
  match i.toNat with
  | 0 => .ppuctrl
  | 1 => .ppumask
  | 2 => .ppustatus
  | 3 => .oamaddr
  | 4 => .oamdata
  | 5 => .ppuscroll
  | 6 => .ppuaddr
  | _ => .ppudata

/-- The PPUSTATUS byte (R322): vblank, sprite-0-hit, sprite-overflow in bits 7, 6, 5; bits 4:0 are 0. -/
def Ppu.statusByte (p : Ppu) : Byte :=
  BitVec.ofBool p.vblank ++ (BitVec.ofBool p.sprite0Hit ++ (BitVec.ofBool p.spriteOverflow ++ (0 : BitVec 5)))

/-- The address increment of PPUDATA (R327, R328): 32 if `ctrl[2]`, else 1; `v` wraps modulo 32,768. -/
def Ppu.nextV (p : Ppu) : BitVec 15 := p.v + if p.ctrl.getLsbD 2 then 32 else 1

/-- `v & 0x3FFF` (R327, R328). -/
def Ppu.dataAddr (p : Ppu) : PpuAddr := p.v.setWidth 14

/-- PPUDATA read (R327): the byte, and the PPU and the cartridge after it. -/
def Ppu.readData (cfg : Params) (c : Cart) (p : Ppu) : Byte × Ppu × Cart :=
  let r := ppuRead cfg c p p.dataAddr
  if p.dataAddr.toNat ≤ 0x3EFF then (p.readBuffer, { p with readBuffer := r.1, v := p.nextV }, r.2)
  else
    let b := ppuRead cfg r.2 p (p.dataAddr - 0x1000)
    (r.1, { p with readBuffer := b.1, v := p.nextV }, b.2)

/-- `PpuRegRead(i)` (R322, R324, R327, R329): the byte, and the PPU and the cartridge after the read. -/
def ppuRegRead (cfg : Params) (c : Cart) (p : Ppu) : PpuReg → Byte × Ppu × Cart
  | .ppustatus => (p.statusByte, { p with vblank := false, w := false }, c)
  | .oamdata   => (Memory.read p.oam p.oamAddr.toNat, p, c)
  | .ppudata   => p.readData cfg c
  | .ppuctrl   => (0, p, c)
  | .ppumask   => (0, p, c)
  | .oamaddr   => (0, p, c)
  | .ppuscroll => (0, p, c)
  | .ppuaddr   => (0, p, c)

/-- PPUCTRL write (R320). -/
def Ppu.writeCtrl (p : Ppu) (v : Byte) : Ppu :=
  { p with
    ctrl       := v
    t          := setField p.t 10 (v.extractLsb' 0 2)
    nmiRequest := p.nmiRequest || (!p.ctrl.getLsbD 7 && v.getLsbD 7 && p.vblank) }

/-- OAMDATA write (R324). -/
def Ppu.writeOamData (p : Ppu) (v : Byte) : Ppu :=
  { p with oam := Memory.write p.oam p.oamAddr.toNat v, oamAddr := p.oamAddr + 1 }

/-- PPUSCROLL write (R325). -/
def Ppu.writeScroll (p : Ppu) (v : Byte) : Ppu :=
  if p.w then
    { p with t := setField (setField p.t 5 (v.extractLsb' 3 5)) 12 (v.extractLsb' 0 3), w := false }
  else
    { p with t := setField p.t 0 (v.extractLsb' 3 5), x := v.extractLsb' 0 3, w := true }

/-- PPUADDR write (R326). -/
def Ppu.writeAddr (p : Ppu) (v : Byte) : Ppu :=
  if p.w then
    { p with t := setField p.t 0 v, v := setField p.t 0 v, w := false }
  else
    { p with t := setField (setField p.t 8 (v.extractLsb' 0 6)) 14 (0 : BitVec 1), w := true }

/-- PPUDATA write (R328). -/
def Ppu.writeData (cfg : Params) (c : Cart) (p : Ppu) (v : Byte) : Ppu × Cart :=
  let r := ppuWrite cfg c p p.dataAddr v
  ({ r.1 with v := p.nextV }, r.2)

/-- `PpuRegWrite(i, v)` (R320 to R329): the PPU and the cartridge after the write. -/
def ppuRegWrite (cfg : Params) (c : Cart) (p : Ppu) (r : PpuReg) (v : Byte) : Ppu × Cart :=
  match r with
  | .ppuctrl   => (p.writeCtrl v, c)
  | .ppumask   => ({ p with mask := v }, c)
  | .ppustatus => (p, c)
  | .oamaddr   => ({ p with oamAddr := v }, c)
  | .oamdata   => (p.writeOamData v, c)
  | .ppuscroll => (p.writeScroll v, c)
  | .ppuaddr   => (p.writeAddr v, c)
  | .ppudata   => Ppu.writeData cfg c p v

end Sys2Proof.Machine
end

