-- ==== Sys2Proof/Machine/Ops.lean ====
section
/-! DEFINITION. The named operations over registers, the bus and the stack (00_scope.md R12, 20_memory.md), and taking an
interrupt and returning from one (60_exceptions.md R271, 45_flags_system.md R238, R239). -/

namespace Sys2Proof.Machine

/-! ### Registers -/

/-- `A <- v`. -/
def State.setA (s : State) (v : Byte) : State := { s with cpu := { s.cpu with a := v } }

/-- `X <- v`. -/
def State.setX (s : State) (v : Byte) : State := { s with cpu := { s.cpu with x := v } }

/-- `Y <- v`. -/
def State.setY (s : State) (v : Byte) : State := { s with cpu := { s.cpu with y := v } }

/-- `SP <- v`. -/
def State.setSP (s : State) (v : Byte) : State := { s with cpu := { s.cpu with sp := v } }

/-- `PC <- v`. -/
def State.setPC (s : State) (v : Word) : State := { s with cpu := { s.cpu with pc := v } }

/-- `P <- v`. -/
def State.setP (s : State) (v : Byte) : State := { s with cpu := { s.cpu with p := v } }

/-- `P.F <- v`. -/
def State.setFlag (s : State) (f : Flag) (v : Bool) : State := s.setP (f.put v s.cpu.p)

/-- `P.F`. -/
def State.flag (s : State) (f : Flag) : Bool := f.get s.cpu.p

/-- `cycles <- cycles + n` (R39, R133). -/
def State.addCycles (s : State) (n : Nat) : State := { s with cpu := { s.cpu with cycles := s.cpu.cycles + n } }

/-- `nmi_pending <- v` (R37). -/
def State.setNmiPending (s : State) (v : Bool) : State := { s with cpu := { s.cpu with nmiPending := v } }

/-- `irq_pending <- v` (R37). -/
def State.setIrqPending (s : State) (v : Bool) : State := { s with cpu := { s.cpu with irqPending := v } }

/-- A load: the register is written and `SetZN` applied (R27). -/
def State.loadA (s : State) (v : Byte) : State := (s.setA v).setP (setZN v s.cpu.p)

/-- As `loadA`, for X. -/
def State.loadX (s : State) (v : Byte) : State := (s.setX v).setP (setZN v s.cpu.p)

/-- As `loadA`, for Y. -/
def State.loadY (s : State) (v : Byte) : State := (s.setY v).setP (setZN v s.cpu.p)

/-! ### The bus -/

/-- What a CPU address decodes to (R65). -/
inductive BusTarget
  | ram (offset : Nat)
  | ppuReg (r : PpuReg)
  | oamDma
  | port1
  | port2
  | unmapped
  | cart
  deriving DecidableEq, Repr

/-- The decoder (R65): total, a function of the address alone. -/
def busTarget (addr : Word) : BusTarget :=
  if addr.toNat ≤ 0x1FFF then .ram (addr.toNat % 0x800)
  else if addr.toNat ≤ 0x3FFF then .ppuReg (PpuReg.ofIndex (addr.setWidth 3))
  else if addr.toNat = 0x4014 then .oamDma
  else if addr.toNat = 0x4016 then .port1
  else if addr.toNat = 0x4017 then .port2
  else if addr.toNat ≤ 0x401F then .unmapped
  else .cart

/-- `MemRead(addr, 1)` (R66): the byte, and the state after the read's side effect. -/
def memRead (addr : Word) (s : State) : Byte × State :=
  match busTarget addr with
  | .ram offset => (Memory.read s.ram offset, s)
  | .ppuReg r   =>
    let x := ppuRegRead s.params s.cart s.ppu r
    (x.1, { s with ppu := x.2.1, cart := x.2.2 })
  | .port1      => (bitByte s.pad1.read.1, { s with pad1 := s.pad1.read.2 })
  | .port2      => (bitByte s.pad2.read.1, { s with pad2 := s.pad2.read.2 })
  | .oamDma     => (0, s)
  | .unmapped   => (0, s)
  | .cart       => ((s.cart.readPrg addr).1, { s with cart := (s.cart.readPrg addr).2 })

/-- The byte a read of `addr` would give, without the read (R82, R292). -/
def peek (addr : Word) (s : State) : Byte := (memRead addr s).1

/-- One byte of an OAM DMA (R330). -/
def dmaByte (page : Byte) (s : State) (i : Nat) : State :=
  let r := memRead (w16 page (BitVec.ofNat 8 i)) s
  { r.2 with ppu := { r.2.ppu with oam := Memory.write r.2.ppu.oam ((r.2.ppu.oamAddr.toNat + i) % 256) r.1 } }

/-- `OamDma(page)` (R330): 256 bus reads in ascending order, and `DMA_CYCLES`. -/
def oamDma (page : Byte) (s : State) : State :=
  ((List.range 256).foldl (dmaByte page) s).addCycles s.params.dmaCycles

/-- `MemWrite(addr, 1, v)` (R67). -/
def memWrite (addr : Word) (v : Byte) (s : State) : State :=
  match busTarget addr with
  | .ram offset => { s with ram := Memory.write s.ram offset v }
  | .ppuReg r   =>
    { s with ppu := (ppuRegWrite s.params s.cart s.ppu r v).1, cart := (ppuRegWrite s.params s.cart s.ppu r v).2 }
  | .oamDma     => oamDma v s
  | .port1      => { s with pad1 := s.pad1.writeStrobe (v.getLsbD 0), pad2 := s.pad2.writeStrobe (v.getLsbD 0) }
  | .port2      => s
  | .unmapped   => s
  | .cart       => { s with cart := s.cart.writePrg addr v }

/-- Two reads, low byte first; the value and the state (R12). -/
def readPair (low high : Word) (s : State) : Word × State :=
  let l := memRead low s
  let h := memRead high l.2
  (w16 h.1 l.1, h.2)

/-- `MemRead(addr, 2)` (R12). -/
def memRead16 (addr : Word) (s : State) : Word × State := readPair addr (addr + 1) s

/-- `MemRead16ZP(z)` (R12): the pointer never leaves page 0. -/
def memRead16ZP (z : Byte) (s : State) : Word × State := readPair (zext16 z) (zext16 (z + 1)) s

/-- `MemRead16PW(addr)` (R12, R114): the high byte comes from the same page. -/
def memRead16PW (addr : Word) (s : State) : Word × State := readPair addr (w16 (hi addr) (lo addr + 1)) s

/-! ### The stack (R22) -/

/-- `0x0100 + SP`. -/
def stackAddr (sp : Byte) : Word := w16 1 sp

/-- `Push(v)` (R12). -/
def push (v : Byte) (s : State) : State := (memWrite (stackAddr s.cpu.sp) v s).setSP (s.cpu.sp - 1)

/-- `Pull()` (R12). -/
def pull (s : State) : Byte × State :=
  memRead (stackAddr (s.cpu.sp + 1)) (s.setSP (s.cpu.sp + 1))

/-- A 16-bit value is pushed high byte first (R75). -/
def pushWord (w : Word) (s : State) : State := push (lo w) (push (hi w) s)

/-- A 16-bit value is pulled low byte first (R212, R239). -/
def pullWord (s : State) : Word × State :=
  let l := pull s
  let h := pull l.2
  (w16 h.1 l.1, h.2)

/-! ### Taking an interrupt, and returning from one -/

/-- The NMI vector (R270). -/
def nmiVector : Word := 0xFFFA

/-- The reset vector (R270). -/
def resetVector : Word := 0xFFFC

/-- The IRQ/BRK vector (R270). -/
def irqVector : Word := 0xFFFE

/-- Entry shared by NMI, IRQ and BRK (R271, R238): push the return address, high byte first, and a status byte, set I,
load PC from the vector, 7 cycles. -/
def takeInterrupt (vector returnTo : Word) (status : Byte) (s : State) : State :=
  let saved  := push status (pushWord returnTo s)
  let masked := saved.setFlag .i true
  let target := memRead16 vector masked
  (target.2.setPC target.1).addCycles 7

/-- `InterruptEntry(vector)` for NMI and IRQ (R271): PC is the address of the instruction that was about to run. -/
def interruptEntry (vector : Word) (s : State) : State :=
  takeInterrupt vector s.cpu.pc (statusPushedByInterrupt s.cpu.p) s

/-- The pulled status byte becomes P, the stored bits 5 and 4 kept (R163, R239). -/
def pullStatus (s : State) : State :=
  let m := pull s
  m.2.setP (statusPulled m.1 m.2.cpu.p)

/-- Return from interrupt (R239): P, then PC, from the stack. -/
def returnFromInterrupt (s : State) : State :=
  let target := pullWord (pullStatus s)
  target.2.setPC target.1

/-! ### The requests (R263, R267) -/

/-- `request_nmi()`. -/
def requestNmi (s : State) : State := s.setNmiPending true

/-- `request_irq()`. -/
def requestIrq (s : State) : State := s.setIrqPending true

/-- `release_irq()`. -/
def releaseIrq (s : State) : State := s.setIrqPending false

end Sys2Proof.Machine
end

