-- ==== Sys2Proof/Syntax.lean ====
section
/-! DEFINITION. The instructions: one constructor for each of the 151 rows of opcode_table.json (30_encoding.md R121),
with the operand bytes of its format (R101), and the addressing modes the meanings are written over. -/

namespace Sys2Proof

/-- The modes that yield an effective address (R103, R108 to R116). -/
inductive MemMode
  | zp (d : Byte)
  | zpx (d : Byte)
  | zpy (d : Byte)
  | abs (d16 : Word)
  | abx (d16 : Word)
  | aby (d16 : Word)
  | izx (d : Byte)
  | izy (d : Byte)
  deriving DecidableEq, Repr

/-- Where a read instruction takes its operand (R103 `LoadOperand`). -/
inductive Source
  | imm (d : Byte)
  | mem (m : MemMode)
  deriving DecidableEq, Repr

/-- What a read-modify-write instruction works on (R103 `StoreResult`). -/
inductive Place
  | acc
  | mem (m : MemMode)
  deriving DecidableEq, Repr

/-- The 56 mnemonics (R120). -/
inductive Mnemonic
  | adc | and | asl | bcc | bcs | beq | bit | bmi | bne | bpl | brk | bvc | bvs | clc
  | cld | cli | clv | cmp | cpx | cpy | dec | dex | dey | eor | inc | inx | iny | jmp
  | jsr | lda | ldx | ldy | lsr | nop | ora | pha | php | pla | plp | rol | ror | rti
  | rts | sbc | sec | sed | sei | sta | stx | sty | tax | tay | tsx | txa | txs | tya
  deriving DecidableEq, Repr

/-- The instructions. `d` is `d8`, `d16` is `w16(hi, lo)` (R101, R102). -/
inductive Instr
  /-- LDA immediate (R140). -/
  | ldaImm (d : Byte)
  /-- LDA zero-page (R140). -/
  | ldaZp (d : Byte)
  /-- LDA zero-page,X (R140). -/
  | ldaZpx (d : Byte)
  /-- LDA absolute (R140). -/
  | ldaAbs (d16 : Word)
  /-- LDA absolute,X (R140). -/
  | ldaAbx (d16 : Word)
  /-- LDA absolute,Y (R140). -/
  | ldaAby (d16 : Word)
  /-- LDA (zero-page,X) (R140). -/
  | ldaIzx (d : Byte)
  /-- LDA (zero-page),Y (R140). -/
  | ldaIzy (d : Byte)
  /-- LDX immediate (R141). -/
  | ldxImm (d : Byte)
  /-- LDX zero-page (R141). -/
  | ldxZp (d : Byte)
  /-- LDX zero-page,Y (R141). -/
  | ldxZpy (d : Byte)
  /-- LDX absolute (R141). -/
  | ldxAbs (d16 : Word)
  /-- LDX absolute,Y (R141). -/
  | ldxAby (d16 : Word)
  /-- LDY immediate (R142). -/
  | ldyImm (d : Byte)
  /-- LDY zero-page (R142). -/
  | ldyZp (d : Byte)
  /-- LDY zero-page,X (R142). -/
  | ldyZpx (d : Byte)
  /-- LDY absolute (R142). -/
  | ldyAbs (d16 : Word)
  /-- LDY absolute,X (R142). -/
  | ldyAbx (d16 : Word)
  /-- STA zero-page (R143). -/
  | staZp (d : Byte)
  /-- STA zero-page,X (R143). -/
  | staZpx (d : Byte)
  /-- STA absolute (R143). -/
  | staAbs (d16 : Word)
  /-- STA absolute,X (R143). -/
  | staAbx (d16 : Word)
  /-- STA absolute,Y (R143). -/
  | staAby (d16 : Word)
  /-- STA (zero-page,X) (R143). -/
  | staIzx (d : Byte)
  /-- STA (zero-page),Y (R143). -/
  | staIzy (d : Byte)
  /-- STX zero-page (R144). -/
  | stxZp (d : Byte)
  /-- STX zero-page,Y (R144). -/
  | stxZpy (d : Byte)
  /-- STX absolute (R144). -/
  | stxAbs (d16 : Word)
  /-- STY zero-page (R145). -/
  | styZp (d : Byte)
  /-- STY zero-page,X (R145). -/
  | styZpx (d : Byte)
  /-- STY absolute (R145). -/
  | styAbs (d16 : Word)
  /-- TAX implicit (R146). -/
  | tax
  /-- TAY implicit (R147). -/
  | tay
  /-- TXA implicit (R148). -/
  | txa
  /-- TYA implicit (R149). -/
  | tya
  /-- TSX implicit (R150). -/
  | tsx
  /-- TXS implicit (R151). -/
  | txs
  /-- PHA implicit (R160). -/
  | pha
  /-- PHP implicit (R161). -/
  | php
  /-- PLA implicit (R162). -/
  | pla
  /-- PLP implicit (R163). -/
  | plp
  /-- ADC immediate (R171). -/
  | adcImm (d : Byte)
  /-- ADC zero-page (R171). -/
  | adcZp (d : Byte)
  /-- ADC zero-page,X (R171). -/
  | adcZpx (d : Byte)
  /-- ADC absolute (R171). -/
  | adcAbs (d16 : Word)
  /-- ADC absolute,X (R171). -/
  | adcAbx (d16 : Word)
  /-- ADC absolute,Y (R171). -/
  | adcAby (d16 : Word)
  /-- ADC (zero-page,X) (R171). -/
  | adcIzx (d : Byte)
  /-- ADC (zero-page),Y (R171). -/
  | adcIzy (d : Byte)
  /-- SBC immediate (R172). -/
  | sbcImm (d : Byte)
  /-- SBC zero-page (R172). -/
  | sbcZp (d : Byte)
  /-- SBC zero-page,X (R172). -/
  | sbcZpx (d : Byte)
  /-- SBC absolute (R172). -/
  | sbcAbs (d16 : Word)
  /-- SBC absolute,X (R172). -/
  | sbcAbx (d16 : Word)
  /-- SBC absolute,Y (R172). -/
  | sbcAby (d16 : Word)
  /-- SBC (zero-page,X) (R172). -/
  | sbcIzx (d : Byte)
  /-- SBC (zero-page),Y (R172). -/
  | sbcIzy (d : Byte)
  /-- CMP immediate (R173). -/
  | cmpImm (d : Byte)
  /-- CMP zero-page (R173). -/
  | cmpZp (d : Byte)
  /-- CMP zero-page,X (R173). -/
  | cmpZpx (d : Byte)
  /-- CMP absolute (R173). -/
  | cmpAbs (d16 : Word)
  /-- CMP absolute,X (R173). -/
  | cmpAbx (d16 : Word)
  /-- CMP absolute,Y (R173). -/
  | cmpAby (d16 : Word)
  /-- CMP (zero-page,X) (R173). -/
  | cmpIzx (d : Byte)
  /-- CMP (zero-page),Y (R173). -/
  | cmpIzy (d : Byte)
  /-- CPX immediate (R174). -/
  | cpxImm (d : Byte)
  /-- CPX zero-page (R174). -/
  | cpxZp (d : Byte)
  /-- CPX absolute (R174). -/
  | cpxAbs (d16 : Word)
  /-- CPY immediate (R175). -/
  | cpyImm (d : Byte)
  /-- CPY zero-page (R175). -/
  | cpyZp (d : Byte)
  /-- CPY absolute (R175). -/
  | cpyAbs (d16 : Word)
  /-- INC zero-page (R176). -/
  | incZp (d : Byte)
  /-- INC zero-page,X (R176). -/
  | incZpx (d : Byte)
  /-- INC absolute (R176). -/
  | incAbs (d16 : Word)
  /-- INC absolute,X (R176). -/
  | incAbx (d16 : Word)
  /-- INX implicit (R177). -/
  | inx
  /-- INY implicit (R178). -/
  | iny
  /-- DEC zero-page (R179). -/
  | decZp (d : Byte)
  /-- DEC zero-page,X (R179). -/
  | decZpx (d : Byte)
  /-- DEC absolute (R179). -/
  | decAbs (d16 : Word)
  /-- DEC absolute,X (R179). -/
  | decAbx (d16 : Word)
  /-- DEX implicit (R180). -/
  | dex
  /-- DEY implicit (R181). -/
  | dey
  /-- AND immediate (R190). -/
  | andImm (d : Byte)
  /-- AND zero-page (R190). -/
  | andZp (d : Byte)
  /-- AND zero-page,X (R190). -/
  | andZpx (d : Byte)
  /-- AND absolute (R190). -/
  | andAbs (d16 : Word)
  /-- AND absolute,X (R190). -/
  | andAbx (d16 : Word)
  /-- AND absolute,Y (R190). -/
  | andAby (d16 : Word)
  /-- AND (zero-page,X) (R190). -/
  | andIzx (d : Byte)
  /-- AND (zero-page),Y (R190). -/
  | andIzy (d : Byte)
  /-- ORA immediate (R191). -/
  | oraImm (d : Byte)
  /-- ORA zero-page (R191). -/
  | oraZp (d : Byte)
  /-- ORA zero-page,X (R191). -/
  | oraZpx (d : Byte)
  /-- ORA absolute (R191). -/
  | oraAbs (d16 : Word)
  /-- ORA absolute,X (R191). -/
  | oraAbx (d16 : Word)
  /-- ORA absolute,Y (R191). -/
  | oraAby (d16 : Word)
  /-- ORA (zero-page,X) (R191). -/
  | oraIzx (d : Byte)
  /-- ORA (zero-page),Y (R191). -/
  | oraIzy (d : Byte)
  /-- EOR immediate (R192). -/
  | eorImm (d : Byte)
  /-- EOR zero-page (R192). -/
  | eorZp (d : Byte)
  /-- EOR zero-page,X (R192). -/
  | eorZpx (d : Byte)
  /-- EOR absolute (R192). -/
  | eorAbs (d16 : Word)
  /-- EOR absolute,X (R192). -/
  | eorAbx (d16 : Word)
  /-- EOR absolute,Y (R192). -/
  | eorAby (d16 : Word)
  /-- EOR (zero-page,X) (R192). -/
  | eorIzx (d : Byte)
  /-- EOR (zero-page),Y (R192). -/
  | eorIzy (d : Byte)
  /-- BIT zero-page (R193). -/
  | bitZp (d : Byte)
  /-- BIT absolute (R193). -/
  | bitAbs (d16 : Word)
  /-- ASL accumulator (R194). -/
  | aslAcc
  /-- ASL zero-page (R194). -/
  | aslZp (d : Byte)
  /-- ASL zero-page,X (R194). -/
  | aslZpx (d : Byte)
  /-- ASL absolute (R194). -/
  | aslAbs (d16 : Word)
  /-- ASL absolute,X (R194). -/
  | aslAbx (d16 : Word)
  /-- LSR accumulator (R195). -/
  | lsrAcc
  /-- LSR zero-page (R195). -/
  | lsrZp (d : Byte)
  /-- LSR zero-page,X (R195). -/
  | lsrZpx (d : Byte)
  /-- LSR absolute (R195). -/
  | lsrAbs (d16 : Word)
  /-- LSR absolute,X (R195). -/
  | lsrAbx (d16 : Word)
  /-- ROL accumulator (R196). -/
  | rolAcc
  /-- ROL zero-page (R196). -/
  | rolZp (d : Byte)
  /-- ROL zero-page,X (R196). -/
  | rolZpx (d : Byte)
  /-- ROL absolute (R196). -/
  | rolAbs (d16 : Word)
  /-- ROL absolute,X (R196). -/
  | rolAbx (d16 : Word)
  /-- ROR accumulator (R197). -/
  | rorAcc
  /-- ROR zero-page (R197). -/
  | rorZp (d : Byte)
  /-- ROR zero-page,X (R197). -/
  | rorZpx (d : Byte)
  /-- ROR absolute (R197). -/
  | rorAbs (d16 : Word)
  /-- ROR absolute,X (R197). -/
  | rorAbx (d16 : Word)
  /-- JMP absolute (R210). -/
  | jmpAbs (d16 : Word)
  /-- JMP indirect (R210). -/
  | jmpInd (d16 : Word)
  /-- JSR absolute (R211). -/
  | jsr (d16 : Word)
  /-- RTS implicit (R212). -/
  | rts
  /-- BCC relative (R215). -/
  | bcc (d : Byte)
  /-- BCS relative (R216). -/
  | bcs (d : Byte)
  /-- BEQ relative (R217). -/
  | beq (d : Byte)
  /-- BNE relative (R218). -/
  | bne (d : Byte)
  /-- BMI relative (R219). -/
  | bmi (d : Byte)
  /-- BPL relative (R220). -/
  | bpl (d : Byte)
  /-- BVC relative (R221). -/
  | bvc (d : Byte)
  /-- BVS relative (R222). -/
  | bvs (d : Byte)
  /-- CLC implicit (R230). -/
  | clc
  /-- SEC implicit (R231). -/
  | sec
  /-- CLI implicit (R232). -/
  | cli
  /-- SEI implicit (R233). -/
  | sei
  /-- CLV implicit (R234). -/
  | clv
  /-- CLD implicit (R235). -/
  | cld
  /-- SED implicit (R236). -/
  | sed
  /-- NOP implicit (R237). -/
  | nop
  /-- BRK implicit (R238). -/
  | brk
  /-- RTI implicit (R239). -/
  | rti
  deriving DecidableEq, Repr

/-- The mnemonic of an instruction (R121). -/
def Instr.mnemonic : Instr → Mnemonic
  | .ldaImm _ => .lda
  | .ldaZp _ => .lda
  | .ldaZpx _ => .lda
  | .ldaAbs _ => .lda
  | .ldaAbx _ => .lda
  | .ldaAby _ => .lda
  | .ldaIzx _ => .lda
  | .ldaIzy _ => .lda
  | .ldxImm _ => .ldx
  | .ldxZp _ => .ldx
  | .ldxZpy _ => .ldx
  | .ldxAbs _ => .ldx
  | .ldxAby _ => .ldx
  | .ldyImm _ => .ldy
  | .ldyZp _ => .ldy
  | .ldyZpx _ => .ldy
  | .ldyAbs _ => .ldy
  | .ldyAbx _ => .ldy
  | .staZp _ => .sta
  | .staZpx _ => .sta
  | .staAbs _ => .sta
  | .staAbx _ => .sta
  | .staAby _ => .sta
  | .staIzx _ => .sta
  | .staIzy _ => .sta
  | .stxZp _ => .stx
  | .stxZpy _ => .stx
  | .stxAbs _ => .stx
  | .styZp _ => .sty
  | .styZpx _ => .sty
  | .styAbs _ => .sty
  | .tax => .tax
  | .tay => .tay
  | .txa => .txa
  | .tya => .tya
  | .tsx => .tsx
  | .txs => .txs
  | .pha => .pha
  | .php => .php
  | .pla => .pla
  | .plp => .plp
  | .adcImm _ => .adc
  | .adcZp _ => .adc
  | .adcZpx _ => .adc
  | .adcAbs _ => .adc
  | .adcAbx _ => .adc
  | .adcAby _ => .adc
  | .adcIzx _ => .adc
  | .adcIzy _ => .adc
  | .sbcImm _ => .sbc
  | .sbcZp _ => .sbc
  | .sbcZpx _ => .sbc
  | .sbcAbs _ => .sbc
  | .sbcAbx _ => .sbc
  | .sbcAby _ => .sbc
  | .sbcIzx _ => .sbc
  | .sbcIzy _ => .sbc
  | .cmpImm _ => .cmp
  | .cmpZp _ => .cmp
  | .cmpZpx _ => .cmp
  | .cmpAbs _ => .cmp
  | .cmpAbx _ => .cmp
  | .cmpAby _ => .cmp
  | .cmpIzx _ => .cmp
  | .cmpIzy _ => .cmp
  | .cpxImm _ => .cpx
  | .cpxZp _ => .cpx
  | .cpxAbs _ => .cpx
  | .cpyImm _ => .cpy
  | .cpyZp _ => .cpy
  | .cpyAbs _ => .cpy
  | .incZp _ => .inc
  | .incZpx _ => .inc
  | .incAbs _ => .inc
  | .incAbx _ => .inc
  | .inx => .inx
  | .iny => .iny
  | .decZp _ => .dec
  | .decZpx _ => .dec
  | .decAbs _ => .dec
  | .decAbx _ => .dec
  | .dex => .dex
  | .dey => .dey
  | .andImm _ => .and
  | .andZp _ => .and
  | .andZpx _ => .and
  | .andAbs _ => .and
  | .andAbx _ => .and
  | .andAby _ => .and
  | .andIzx _ => .and
  | .andIzy _ => .and
  | .oraImm _ => .ora
  | .oraZp _ => .ora
  | .oraZpx _ => .ora
  | .oraAbs _ => .ora
  | .oraAbx _ => .ora
  | .oraAby _ => .ora
  | .oraIzx _ => .ora
  | .oraIzy _ => .ora
  | .eorImm _ => .eor
  | .eorZp _ => .eor
  | .eorZpx _ => .eor
  | .eorAbs _ => .eor
  | .eorAbx _ => .eor
  | .eorAby _ => .eor
  | .eorIzx _ => .eor
  | .eorIzy _ => .eor
  | .bitZp _ => .bit
  | .bitAbs _ => .bit
  | .aslAcc => .asl
  | .aslZp _ => .asl
  | .aslZpx _ => .asl
  | .aslAbs _ => .asl
  | .aslAbx _ => .asl
  | .lsrAcc => .lsr
  | .lsrZp _ => .lsr
  | .lsrZpx _ => .lsr
  | .lsrAbs _ => .lsr
  | .lsrAbx _ => .lsr
  | .rolAcc => .rol
  | .rolZp _ => .rol
  | .rolZpx _ => .rol
  | .rolAbs _ => .rol
  | .rolAbx _ => .rol
  | .rorAcc => .ror
  | .rorZp _ => .ror
  | .rorZpx _ => .ror
  | .rorAbs _ => .ror
  | .rorAbx _ => .ror
  | .jmpAbs _ => .jmp
  | .jmpInd _ => .jmp
  | .jsr _ => .jsr
  | .rts => .rts
  | .bcc _ => .bcc
  | .bcs _ => .bcs
  | .beq _ => .beq
  | .bne _ => .bne
  | .bmi _ => .bmi
  | .bpl _ => .bpl
  | .bvc _ => .bvc
  | .bvs _ => .bvs
  | .clc => .clc
  | .sec => .sec
  | .cli => .cli
  | .sei => .sei
  | .clv => .clv
  | .cld => .cld
  | .sed => .sed
  | .nop => .nop
  | .brk => .brk
  | .rti => .rti

/-- The length in bytes: the format's (R100, R101). -/
def Instr.length : Instr → Nat
  | .ldaImm _ => 2
  | .ldaZp _ => 2
  | .ldaZpx _ => 2
  | .ldaAbs _ => 3
  | .ldaAbx _ => 3
  | .ldaAby _ => 3
  | .ldaIzx _ => 2
  | .ldaIzy _ => 2
  | .ldxImm _ => 2
  | .ldxZp _ => 2
  | .ldxZpy _ => 2
  | .ldxAbs _ => 3
  | .ldxAby _ => 3
  | .ldyImm _ => 2
  | .ldyZp _ => 2
  | .ldyZpx _ => 2
  | .ldyAbs _ => 3
  | .ldyAbx _ => 3
  | .staZp _ => 2
  | .staZpx _ => 2
  | .staAbs _ => 3
  | .staAbx _ => 3
  | .staAby _ => 3
  | .staIzx _ => 2
  | .staIzy _ => 2
  | .stxZp _ => 2
  | .stxZpy _ => 2
  | .stxAbs _ => 3
  | .styZp _ => 2
  | .styZpx _ => 2
  | .styAbs _ => 3
  | .tax => 1
  | .tay => 1
  | .txa => 1
  | .tya => 1
  | .tsx => 1
  | .txs => 1
  | .pha => 1
  | .php => 1
  | .pla => 1
  | .plp => 1
  | .adcImm _ => 2
  | .adcZp _ => 2
  | .adcZpx _ => 2
  | .adcAbs _ => 3
  | .adcAbx _ => 3
  | .adcAby _ => 3
  | .adcIzx _ => 2
  | .adcIzy _ => 2
  | .sbcImm _ => 2
  | .sbcZp _ => 2
  | .sbcZpx _ => 2
  | .sbcAbs _ => 3
  | .sbcAbx _ => 3
  | .sbcAby _ => 3
  | .sbcIzx _ => 2
  | .sbcIzy _ => 2
  | .cmpImm _ => 2
  | .cmpZp _ => 2
  | .cmpZpx _ => 2
  | .cmpAbs _ => 3
  | .cmpAbx _ => 3
  | .cmpAby _ => 3
  | .cmpIzx _ => 2
  | .cmpIzy _ => 2
  | .cpxImm _ => 2
  | .cpxZp _ => 2
  | .cpxAbs _ => 3
  | .cpyImm _ => 2
  | .cpyZp _ => 2
  | .cpyAbs _ => 3
  | .incZp _ => 2
  | .incZpx _ => 2
  | .incAbs _ => 3
  | .incAbx _ => 3
  | .inx => 1
  | .iny => 1
  | .decZp _ => 2
  | .decZpx _ => 2
  | .decAbs _ => 3
  | .decAbx _ => 3
  | .dex => 1
  | .dey => 1
  | .andImm _ => 2
  | .andZp _ => 2
  | .andZpx _ => 2
  | .andAbs _ => 3
  | .andAbx _ => 3
  | .andAby _ => 3
  | .andIzx _ => 2
  | .andIzy _ => 2
  | .oraImm _ => 2
  | .oraZp _ => 2
  | .oraZpx _ => 2
  | .oraAbs _ => 3
  | .oraAbx _ => 3
  | .oraAby _ => 3
  | .oraIzx _ => 2
  | .oraIzy _ => 2
  | .eorImm _ => 2
  | .eorZp _ => 2
  | .eorZpx _ => 2
  | .eorAbs _ => 3
  | .eorAbx _ => 3
  | .eorAby _ => 3
  | .eorIzx _ => 2
  | .eorIzy _ => 2
  | .bitZp _ => 2
  | .bitAbs _ => 3
  | .aslAcc => 1
  | .aslZp _ => 2
  | .aslZpx _ => 2
  | .aslAbs _ => 3
  | .aslAbx _ => 3
  | .lsrAcc => 1
  | .lsrZp _ => 2
  | .lsrZpx _ => 2
  | .lsrAbs _ => 3
  | .lsrAbx _ => 3
  | .rolAcc => 1
  | .rolZp _ => 2
  | .rolZpx _ => 2
  | .rolAbs _ => 3
  | .rolAbx _ => 3
  | .rorAcc => 1
  | .rorZp _ => 2
  | .rorZpx _ => 2
  | .rorAbs _ => 3
  | .rorAbx _ => 3
  | .jmpAbs _ => 3
  | .jmpInd _ => 3
  | .jsr _ => 3
  | .rts => 1
  | .bcc _ => 2
  | .bcs _ => 2
  | .beq _ => 2
  | .bne _ => 2
  | .bmi _ => 2
  | .bpl _ => 2
  | .bvc _ => 2
  | .bvs _ => 2
  | .clc => 1
  | .sec => 1
  | .cli => 1
  | .sei => 1
  | .clv => 1
  | .cld => 1
  | .sed => 1
  | .nop => 1
  | .brk => 1
  | .rti => 1

end Sys2Proof
end

