-- ==== Sys2Proof/Machine/Operands.lean ====
section
/-! DEFINITION. The addressing modes (30_encoding.md R103 to R117): effective addresses, the operand of a read
instruction, the place of a read-modify-write instruction, the branch target; and the shapes the instructions of one
class share (R130 to R133). -/

namespace Sys2Proof.Machine

/-- How one instruction ends. -/
abbrev Result := Host.Outcome State Fault Refusal

/-- What an addressing mode with an effective address yields (R103): `ea`, `crossed`, and the state after the mode's
pointer reads. -/
structure Effective where
  addr    : Word
  crossed : Bool
  state   : State
  deriving DecidableEq, Repr

/-- `base + index` as an address, and whether it left the page of `base` (R112, R113, R116). -/
def indexed (base : Word) (index : Byte) (s : State) : Effective :=
  ⟨base + zext16 index, pageDiffers (base + zext16 index) base, s⟩

/-- The effective address of a mode (R108 to R116). -/
def effAddr (m : MemMode) (s : State) : Effective :=
  match m with
  | .zp d    => ⟨zext16 d, false, s⟩
  | .zpx d   => ⟨zext16 (d + s.cpu.x), false, s⟩
  | .zpy d   => ⟨zext16 (d + s.cpu.y), false, s⟩
  | .abs d16 => ⟨d16, false, s⟩
  | .abx d16 => indexed d16 s.cpu.x s
  | .aby d16 => indexed d16 s.cpu.y s
  | .izx d   => ⟨(memRead16ZP (d + s.cpu.x) s).1, false, (memRead16ZP (d + s.cpu.x) s).2⟩
  | .izy d   => indexed (memRead16ZP d s).1 s.cpu.y (memRead16ZP d s).2

/-- What `LoadOperand()` yields: the byte, `crossed`, and the state after the reads. -/
structure Operand where
  value   : Byte
  crossed : Bool
  state   : State
  deriving DecidableEq, Repr

/-- `LoadOperand()` (R103): `d8` itself, or one read of `ea`. -/
def loadOperand (src : Source) (s : State) : Operand :=
  match src with
  | .imm d => ⟨d, false, s⟩
  | .mem m =>
    let e := effAddr m s
    ⟨(memRead e.addr e.state).1, e.crossed, (memRead e.addr e.state).2⟩

/-- The page-crossing penalty of the read class (R131). -/
def crossingPenalty (crossed : Bool) : Nat := if crossed then 1 else 0

/-- A read instruction (R130 class "read"): the operand, then the operation, then base cycles and penalty. -/
def readOp (act : Byte → State → State) (src : Source) (base : Nat) (s : State) : State :=
  let o := loadOperand src s
  (act o.value o.state).addCycles (base + crossingPenalty o.crossed)

/-- A store (R130 class "store"): one write of `ea`, no read, no penalty (R131). -/
def storeOp (v : Byte) (m : MemMode) (base : Nat) (s : State) : State :=
  let e := effAddr m s
  (memWrite e.addr v e.state).addCycles base

/-- A read-modify-write instruction (R103, R130): one read and one write of `ea`, or the accumulator; no penalty. -/
def modifyOp (f : Byte → Byte → Byte × Byte) (pl : Place) (base : Nat) (s : State) : State :=
  match pl with
  | .acc =>
    let r := f s.cpu.a s.cpu.p
    ((s.setA r.1).setP r.2).addCycles base
  | .mem m =>
    let e := effAddr m s
    let o := memRead e.addr e.state
    let r := f o.1 o.2.cpu.p
    ((memWrite e.addr r.1 o.2).setP r.2).addCycles base

/-- The branch target (R117): relative to the address after the branch. -/
def branchTarget (d : Byte) (s : State) : Word := s.cpu.pc + sext16 d

/-- The common rule of the eight branches (R214, R132). -/
def branchOp (f : Flag) (wanted : Bool) (d : Byte) (s : State) : State :=
  if s.flag f = wanted then
    let target := branchTarget d s
    (s.setPC target).addCycles (2 + (1 + if pageDiffers target s.cpu.pc then 1 else 0))
  else s.addCycles 2

end Sys2Proof.Machine
end

