-- ==== Sys2Proof/Machine/Arithmetic.lean ====
section
/-! DEFINITION. Arithmetic, compare, increment and decrement (42_arithmetic.md R170 to R181). -/

namespace Sys2Proof.Machine

/-- `A + m + C` into A; C, V, Z, N (R171). D is not read (R33). -/
def addAct (m : Byte) (s : State) : State :=
  (s.setA (addResult s.cpu.a m (s.flag .c))).setP (addStatus s.cpu.a m s.cpu.p)

/-- ADC (R171). -/
def adcOp (src : Source) (base : Nat) (s : State) : State := readOp addAct src base s

/-- SBC (R172): the addition of the one's complement of the operand. -/
def sbcOp (src : Source) (base : Nat) (s : State) : State := readOp (fun m t => addAct (m ^^^ 0xFF) t) src base s

/-- CMP (R173). -/
def cmpOp (src : Source) (base : Nat) (s : State) : State :=
  readOp (fun m t => t.setP (compareStatus t.cpu.a m t.cpu.p)) src base s

/-- CPX (R174). -/
def cpxOp (src : Source) (base : Nat) (s : State) : State :=
  readOp (fun m t => t.setP (compareStatus t.cpu.x m t.cpu.p)) src base s

/-- CPY (R175). -/
def cpyOp (src : Source) (base : Nat) (s : State) : State :=
  readOp (fun m t => t.setP (compareStatus t.cpu.y m t.cpu.p)) src base s

/-- INC (R176). -/
def incOp (pl : Place) (base : Nat) (s : State) : State := modifyOp incByte pl base s

/-- DEC (R179). -/
def decOp (pl : Place) (base : Nat) (s : State) : State := modifyOp decByte pl base s

/-- ADC, `69` imm 2 (R171). -/
def execAdcImm (d : Byte) (s : State) : Result := .next (adcOp (.imm d) 2 s)

/-- ADC, `65` zp 3 (R171). -/
def execAdcZp (d : Byte) (s : State) : Result := .next (adcOp (.mem (.zp d)) 3 s)

/-- ADC, `75` zpx 4 (R171). -/
def execAdcZpx (d : Byte) (s : State) : Result := .next (adcOp (.mem (.zpx d)) 4 s)

/-- ADC, `6D` abs 4 (R171). -/
def execAdcAbs (d16 : Word) (s : State) : Result := .next (adcOp (.mem (.abs d16)) 4 s)

/-- ADC, `7D` abx 4+ (R171). -/
def execAdcAbx (d16 : Word) (s : State) : Result := .next (adcOp (.mem (.abx d16)) 4 s)

/-- ADC, `79` aby 4+ (R171). -/
def execAdcAby (d16 : Word) (s : State) : Result := .next (adcOp (.mem (.aby d16)) 4 s)

/-- ADC, `61` izx 6 (R171). -/
def execAdcIzx (d : Byte) (s : State) : Result := .next (adcOp (.mem (.izx d)) 6 s)

/-- ADC, `71` izy 5+ (R171). -/
def execAdcIzy (d : Byte) (s : State) : Result := .next (adcOp (.mem (.izy d)) 5 s)

/-- SBC, `E9` imm 2 (R172). -/
def execSbcImm (d : Byte) (s : State) : Result := .next (sbcOp (.imm d) 2 s)

/-- SBC, `E5` zp 3 (R172). -/
def execSbcZp (d : Byte) (s : State) : Result := .next (sbcOp (.mem (.zp d)) 3 s)

/-- SBC, `F5` zpx 4 (R172). -/
def execSbcZpx (d : Byte) (s : State) : Result := .next (sbcOp (.mem (.zpx d)) 4 s)

/-- SBC, `ED` abs 4 (R172). -/
def execSbcAbs (d16 : Word) (s : State) : Result := .next (sbcOp (.mem (.abs d16)) 4 s)

/-- SBC, `FD` abx 4+ (R172). -/
def execSbcAbx (d16 : Word) (s : State) : Result := .next (sbcOp (.mem (.abx d16)) 4 s)

/-- SBC, `F9` aby 4+ (R172). -/
def execSbcAby (d16 : Word) (s : State) : Result := .next (sbcOp (.mem (.aby d16)) 4 s)

/-- SBC, `E1` izx 6 (R172). -/
def execSbcIzx (d : Byte) (s : State) : Result := .next (sbcOp (.mem (.izx d)) 6 s)

/-- SBC, `F1` izy 5+ (R172). -/
def execSbcIzy (d : Byte) (s : State) : Result := .next (sbcOp (.mem (.izy d)) 5 s)

/-- CMP, `C9` imm 2 (R173). -/
def execCmpImm (d : Byte) (s : State) : Result := .next (cmpOp (.imm d) 2 s)

/-- CMP, `C5` zp 3 (R173). -/
def execCmpZp (d : Byte) (s : State) : Result := .next (cmpOp (.mem (.zp d)) 3 s)

/-- CMP, `D5` zpx 4 (R173). -/
def execCmpZpx (d : Byte) (s : State) : Result := .next (cmpOp (.mem (.zpx d)) 4 s)

/-- CMP, `CD` abs 4 (R173). -/
def execCmpAbs (d16 : Word) (s : State) : Result := .next (cmpOp (.mem (.abs d16)) 4 s)

/-- CMP, `DD` abx 4+ (R173). -/
def execCmpAbx (d16 : Word) (s : State) : Result := .next (cmpOp (.mem (.abx d16)) 4 s)

/-- CMP, `D9` aby 4+ (R173). -/
def execCmpAby (d16 : Word) (s : State) : Result := .next (cmpOp (.mem (.aby d16)) 4 s)

/-- CMP, `C1` izx 6 (R173). -/
def execCmpIzx (d : Byte) (s : State) : Result := .next (cmpOp (.mem (.izx d)) 6 s)

/-- CMP, `D1` izy 5+ (R173). -/
def execCmpIzy (d : Byte) (s : State) : Result := .next (cmpOp (.mem (.izy d)) 5 s)

/-- CPX, `E0` imm 2 (R174). -/
def execCpxImm (d : Byte) (s : State) : Result := .next (cpxOp (.imm d) 2 s)

/-- CPX, `E4` zp 3 (R174). -/
def execCpxZp (d : Byte) (s : State) : Result := .next (cpxOp (.mem (.zp d)) 3 s)

/-- CPX, `EC` abs 4 (R174). -/
def execCpxAbs (d16 : Word) (s : State) : Result := .next (cpxOp (.mem (.abs d16)) 4 s)

/-- CPY, `C0` imm 2 (R175). -/
def execCpyImm (d : Byte) (s : State) : Result := .next (cpyOp (.imm d) 2 s)

/-- CPY, `C4` zp 3 (R175). -/
def execCpyZp (d : Byte) (s : State) : Result := .next (cpyOp (.mem (.zp d)) 3 s)

/-- CPY, `CC` abs 4 (R175). -/
def execCpyAbs (d16 : Word) (s : State) : Result := .next (cpyOp (.mem (.abs d16)) 4 s)

/-- INC, `E6` zp 5 (R176). -/
def execIncZp (d : Byte) (s : State) : Result := .next (incOp (.mem (.zp d)) 5 s)

/-- INC, `F6` zpx 6 (R176). -/
def execIncZpx (d : Byte) (s : State) : Result := .next (incOp (.mem (.zpx d)) 6 s)

/-- INC, `EE` abs 6 (R176). -/
def execIncAbs (d16 : Word) (s : State) : Result := .next (incOp (.mem (.abs d16)) 6 s)

/-- INC, `FE` abx 7 (R176). -/
def execIncAbx (d16 : Word) (s : State) : Result := .next (incOp (.mem (.abx d16)) 7 s)

/-- INX, `E8` imp 2 (R177). -/
def execInx (s : State) : Result :=
  .next ((s.loadX (s.cpu.x + 1)).addCycles 2)

/-- INY, `C8` imp 2 (R178). -/
def execIny (s : State) : Result :=
  .next ((s.loadY (s.cpu.y + 1)).addCycles 2)

/-- DEC, `C6` zp 5 (R179). -/
def execDecZp (d : Byte) (s : State) : Result := .next (decOp (.mem (.zp d)) 5 s)

/-- DEC, `D6` zpx 6 (R179). -/
def execDecZpx (d : Byte) (s : State) : Result := .next (decOp (.mem (.zpx d)) 6 s)

/-- DEC, `CE` abs 6 (R179). -/
def execDecAbs (d16 : Word) (s : State) : Result := .next (decOp (.mem (.abs d16)) 6 s)

/-- DEC, `DE` abx 7 (R179). -/
def execDecAbx (d16 : Word) (s : State) : Result := .next (decOp (.mem (.abx d16)) 7 s)

/-- DEX, `CA` imp 2 (R180). -/
def execDex (s : State) : Result :=
  .next ((s.loadX (s.cpu.x - 1)).addCycles 2)

/-- DEY, `88` imp 2 (R181). -/
def execDey (s : State) : Result :=
  .next ((s.loadY (s.cpu.y - 1)).addCycles 2)

end Sys2Proof.Machine
end

