-- ==== Sys2Proof/Machine/ControlFlow.lean ====
section
/-! DEFINITION. Jumps, subroutine calls and branches (44_control_flow.md R210 to R222). -/

namespace Sys2Proof.Machine

/-- JMP, `4C` abs 3 (R210). -/
def execJmpAbs (d16 : Word) (s : State) : Result :=
  .next ((s.setPC d16).addCycles 3)

/-- JMP, `6C` ind 5 (R210). -/
def execJmpInd (d16 : Word) (s : State) : Result :=
  .next (((memRead16PW d16 s).2.setPC (memRead16PW d16 s).1).addCycles 5)

/-- JSR, `20` abs 6 (R211). -/
def execJsr (d16 : Word) (s : State) : Result :=
  .next (((pushWord (s.cpu.pc - 1) s).setPC d16).addCycles 6)

/-- RTS, `60` imp 6 (R212). -/
def execRts (s : State) : Result :=
  .next (((pullWord s).2.setPC ((pullWord s).1 + 1)).addCycles 6)

/-- BCC, `90` rel 2 (R215). -/
def execBcc (d : Byte) (s : State) : Result :=
  .next (branchOp .c false d s)

/-- BCS, `B0` rel 2 (R216). -/
def execBcs (d : Byte) (s : State) : Result :=
  .next (branchOp .c true d s)

/-- BEQ, `F0` rel 2 (R217). -/
def execBeq (d : Byte) (s : State) : Result :=
  .next (branchOp .z true d s)

/-- BNE, `D0` rel 2 (R218). -/
def execBne (d : Byte) (s : State) : Result :=
  .next (branchOp .z false d s)

/-- BMI, `30` rel 2 (R219). -/
def execBmi (d : Byte) (s : State) : Result :=
  .next (branchOp .n true d s)

/-- BPL, `10` rel 2 (R220). -/
def execBpl (d : Byte) (s : State) : Result :=
  .next (branchOp .n false d s)

/-- BVC, `50` rel 2 (R221). -/
def execBvc (d : Byte) (s : State) : Result :=
  .next (branchOp .v false d s)

/-- BVS, `70` rel 2 (R222). -/
def execBvs (d : Byte) (s : State) : Result :=
  .next (branchOp .v true d s)

end Sys2Proof.Machine
end

