-- ==== Sys2Proof/Machine/FlagsSystem.lean ====
section
/-! DEFINITION. Flag instructions, NOP, BRK and RTI (45_flags_system.md R230 to R239). -/

namespace Sys2Proof.Machine

/-- CLC, `18` imp 2 (R230). -/
def execClc (s : State) : Result :=
  .next ((s.setFlag .c false).addCycles 2)

/-- SEC, `38` imp 2 (R231). -/
def execSec (s : State) : Result :=
  .next ((s.setFlag .c true).addCycles 2)

/-- CLI, `58` imp 2 (R232). -/
def execCli (s : State) : Result :=
  .next ((s.setFlag .i false).addCycles 2)

/-- SEI, `78` imp 2 (R233). -/
def execSei (s : State) : Result :=
  .next ((s.setFlag .i true).addCycles 2)

/-- CLV, `B8` imp 2 (R234). -/
def execClv (s : State) : Result :=
  .next ((s.setFlag .v false).addCycles 2)

/-- CLD, `D8` imp 2 (R235). -/
def execCld (s : State) : Result :=
  .next ((s.setFlag .d false).addCycles 2)

/-- SED, `F8` imp 2 (R236). -/
def execSed (s : State) : Result :=
  .next ((s.setFlag .d true).addCycles 2)

/-- NOP, `EA` imp 2 (R237). -/
def execNop (s : State) : Result :=
  .next (s.addCycles 2)

/-- BRK, `00` imp 7 (R238). -/
def execBrk (s : State) : Result :=
  .next (takeInterrupt irqVector (s.cpu.pc + 1) (statusPushedByInstruction s.cpu.p) s)

/-- RTI, `40` imp 6 (R239). -/
def execRti (s : State) : Result :=
  .next ((returnFromInterrupt s).addCycles 6)

end Sys2Proof.Machine
end

