-- ==== Sys2Proof/Machine/LoadStore.lean ====
section
/-! DEFINITION. Load, store and register transfer (40_load_store_transfer.md R140 to R151). -/

namespace Sys2Proof.Machine

/-- `A <- m; SetZN(A)` (R140). -/
def ldaOp (src : Source) (base : Nat) (s : State) : State := readOp (fun m t => t.loadA m) src base s

/-- `X <- m; SetZN(X)` (R141). -/
def ldxOp (src : Source) (base : Nat) (s : State) : State := readOp (fun m t => t.loadX m) src base s

/-- `Y <- m; SetZN(Y)` (R142). -/
def ldyOp (src : Source) (base : Nat) (s : State) : State := readOp (fun m t => t.loadY m) src base s

/-- `MemWrite(ea, 1, A)` (R143). -/
def staOp (m : MemMode) (base : Nat) (s : State) : State := storeOp s.cpu.a m base s

/-- `MemWrite(ea, 1, X)` (R144). -/
def stxOp (m : MemMode) (base : Nat) (s : State) : State := storeOp s.cpu.x m base s

/-- `MemWrite(ea, 1, Y)` (R145). -/
def styOp (m : MemMode) (base : Nat) (s : State) : State := storeOp s.cpu.y m base s

/-- LDA, `A9` imm 2 (R140). -/
def execLdaImm (d : Byte) (s : State) : Result := .next (ldaOp (.imm d) 2 s)

/-- LDA, `A5` zp 3 (R140). -/
def execLdaZp (d : Byte) (s : State) : Result := .next (ldaOp (.mem (.zp d)) 3 s)

/-- LDA, `B5` zpx 4 (R140). -/
def execLdaZpx (d : Byte) (s : State) : Result := .next (ldaOp (.mem (.zpx d)) 4 s)

/-- LDA, `AD` abs 4 (R140). -/
def execLdaAbs (d16 : Word) (s : State) : Result := .next (ldaOp (.mem (.abs d16)) 4 s)

/-- LDA, `BD` abx 4+ (R140). -/
def execLdaAbx (d16 : Word) (s : State) : Result := .next (ldaOp (.mem (.abx d16)) 4 s)

/-- LDA, `B9` aby 4+ (R140). -/
def execLdaAby (d16 : Word) (s : State) : Result := .next (ldaOp (.mem (.aby d16)) 4 s)

/-- LDA, `A1` izx 6 (R140). -/
def execLdaIzx (d : Byte) (s : State) : Result := .next (ldaOp (.mem (.izx d)) 6 s)

/-- LDA, `B1` izy 5+ (R140). -/
def execLdaIzy (d : Byte) (s : State) : Result := .next (ldaOp (.mem (.izy d)) 5 s)

/-- LDX, `A2` imm 2 (R141). -/
def execLdxImm (d : Byte) (s : State) : Result := .next (ldxOp (.imm d) 2 s)

/-- LDX, `A6` zp 3 (R141). -/
def execLdxZp (d : Byte) (s : State) : Result := .next (ldxOp (.mem (.zp d)) 3 s)

/-- LDX, `B6` zpy 4 (R141). -/
def execLdxZpy (d : Byte) (s : State) : Result := .next (ldxOp (.mem (.zpy d)) 4 s)

/-- LDX, `AE` abs 4 (R141). -/
def execLdxAbs (d16 : Word) (s : State) : Result := .next (ldxOp (.mem (.abs d16)) 4 s)

/-- LDX, `BE` aby 4+ (R141). -/
def execLdxAby (d16 : Word) (s : State) : Result := .next (ldxOp (.mem (.aby d16)) 4 s)

/-- LDY, `A0` imm 2 (R142). -/
def execLdyImm (d : Byte) (s : State) : Result := .next (ldyOp (.imm d) 2 s)

/-- LDY, `A4` zp 3 (R142). -/
def execLdyZp (d : Byte) (s : State) : Result := .next (ldyOp (.mem (.zp d)) 3 s)

/-- LDY, `B4` zpx 4 (R142). -/
def execLdyZpx (d : Byte) (s : State) : Result := .next (ldyOp (.mem (.zpx d)) 4 s)

/-- LDY, `AC` abs 4 (R142). -/
def execLdyAbs (d16 : Word) (s : State) : Result := .next (ldyOp (.mem (.abs d16)) 4 s)

/-- LDY, `BC` abx 4+ (R142). -/
def execLdyAbx (d16 : Word) (s : State) : Result := .next (ldyOp (.mem (.abx d16)) 4 s)

/-- STA, `85` zp 3 (R143). -/
def execStaZp (d : Byte) (s : State) : Result := .next (staOp (.zp d) 3 s)

/-- STA, `95` zpx 4 (R143). -/
def execStaZpx (d : Byte) (s : State) : Result := .next (staOp (.zpx d) 4 s)

/-- STA, `8D` abs 4 (R143). -/
def execStaAbs (d16 : Word) (s : State) : Result := .next (staOp (.abs d16) 4 s)

/-- STA, `9D` abx 5 (R143). -/
def execStaAbx (d16 : Word) (s : State) : Result := .next (staOp (.abx d16) 5 s)

/-- STA, `99` aby 5 (R143). -/
def execStaAby (d16 : Word) (s : State) : Result := .next (staOp (.aby d16) 5 s)

/-- STA, `81` izx 6 (R143). -/
def execStaIzx (d : Byte) (s : State) : Result := .next (staOp (.izx d) 6 s)

/-- STA, `91` izy 6 (R143). -/
def execStaIzy (d : Byte) (s : State) : Result := .next (staOp (.izy d) 6 s)

/-- STX, `86` zp 3 (R144). -/
def execStxZp (d : Byte) (s : State) : Result := .next (stxOp (.zp d) 3 s)

/-- STX, `96` zpy 4 (R144). -/
def execStxZpy (d : Byte) (s : State) : Result := .next (stxOp (.zpy d) 4 s)

/-- STX, `8E` abs 4 (R144). -/
def execStxAbs (d16 : Word) (s : State) : Result := .next (stxOp (.abs d16) 4 s)

/-- STY, `84` zp 3 (R145). -/
def execStyZp (d : Byte) (s : State) : Result := .next (styOp (.zp d) 3 s)

/-- STY, `94` zpx 4 (R145). -/
def execStyZpx (d : Byte) (s : State) : Result := .next (styOp (.zpx d) 4 s)

/-- STY, `8C` abs 4 (R145). -/
def execStyAbs (d16 : Word) (s : State) : Result := .next (styOp (.abs d16) 4 s)

/-- TAX, `AA` imp 2 (R146). -/
def execTax (s : State) : Result :=
  .next ((s.loadX s.cpu.a).addCycles 2)

/-- TAY, `A8` imp 2 (R147). -/
def execTay (s : State) : Result :=
  .next ((s.loadY s.cpu.a).addCycles 2)

/-- TXA, `8A` imp 2 (R148). -/
def execTxa (s : State) : Result :=
  .next ((s.loadA s.cpu.x).addCycles 2)

/-- TYA, `98` imp 2 (R149). -/
def execTya (s : State) : Result :=
  .next ((s.loadA s.cpu.y).addCycles 2)

/-- TSX, `BA` imp 2 (R150). -/
def execTsx (s : State) : Result :=
  .next ((s.loadX s.cpu.sp).addCycles 2)

/-- TXS, `9A` imp 2 (R151). -/
def execTxs (s : State) : Result :=
  .next ((s.setSP s.cpu.x).addCycles 2)

end Sys2Proof.Machine
end

