-- ==== Sys2Proof/Machine/LogicShift.lean ====
section
/-! DEFINITION. Logic, bit test, shifts and rotates (43_logic_shift.md R190 to R197). -/

namespace Sys2Proof.Machine

/-- AND (R190). -/
def andOp (src : Source) (base : Nat) (s : State) : State := readOp (fun m t => t.loadA (t.cpu.a &&& m)) src base s

/-- ORA (R191). -/
def oraOp (src : Source) (base : Nat) (s : State) : State := readOp (fun m t => t.loadA (t.cpu.a ||| m)) src base s

/-- EOR (R192). -/
def eorOp (src : Source) (base : Nat) (s : State) : State := readOp (fun m t => t.loadA (t.cpu.a ^^^ m)) src base s

/-- BIT (R193). -/
def bitOp (src : Source) (base : Nat) (s : State) : State :=
  readOp (fun m t => t.setP (bitTestStatus t.cpu.a m t.cpu.p)) src base s

/-- ASL (R194). -/
def aslOp (pl : Place) (base : Nat) (s : State) : State := modifyOp aslByte pl base s

/-- LSR (R195). -/
def lsrOp (pl : Place) (base : Nat) (s : State) : State := modifyOp lsrByte pl base s

/-- ROL (R196). -/
def rolOp (pl : Place) (base : Nat) (s : State) : State := modifyOp rolByte pl base s

/-- ROR (R197). -/
def rorOp (pl : Place) (base : Nat) (s : State) : State := modifyOp rorByte pl base s

/-- AND, `29` imm 2 (R190). -/
def execAndImm (d : Byte) (s : State) : Result := .next (andOp (.imm d) 2 s)

/-- AND, `25` zp 3 (R190). -/
def execAndZp (d : Byte) (s : State) : Result := .next (andOp (.mem (.zp d)) 3 s)

/-- AND, `35` zpx 4 (R190). -/
def execAndZpx (d : Byte) (s : State) : Result := .next (andOp (.mem (.zpx d)) 4 s)

/-- AND, `2D` abs 4 (R190). -/
def execAndAbs (d16 : Word) (s : State) : Result := .next (andOp (.mem (.abs d16)) 4 s)

/-- AND, `3D` abx 4+ (R190). -/
def execAndAbx (d16 : Word) (s : State) : Result := .next (andOp (.mem (.abx d16)) 4 s)

/-- AND, `39` aby 4+ (R190). -/
def execAndAby (d16 : Word) (s : State) : Result := .next (andOp (.mem (.aby d16)) 4 s)

/-- AND, `21` izx 6 (R190). -/
def execAndIzx (d : Byte) (s : State) : Result := .next (andOp (.mem (.izx d)) 6 s)

/-- AND, `31` izy 5+ (R190). -/
def execAndIzy (d : Byte) (s : State) : Result := .next (andOp (.mem (.izy d)) 5 s)

/-- ORA, `09` imm 2 (R191). -/
def execOraImm (d : Byte) (s : State) : Result := .next (oraOp (.imm d) 2 s)

/-- ORA, `05` zp 3 (R191). -/
def execOraZp (d : Byte) (s : State) : Result := .next (oraOp (.mem (.zp d)) 3 s)

/-- ORA, `15` zpx 4 (R191). -/
def execOraZpx (d : Byte) (s : State) : Result := .next (oraOp (.mem (.zpx d)) 4 s)

/-- ORA, `0D` abs 4 (R191). -/
def execOraAbs (d16 : Word) (s : State) : Result := .next (oraOp (.mem (.abs d16)) 4 s)

/-- ORA, `1D` abx 4+ (R191). -/
def execOraAbx (d16 : Word) (s : State) : Result := .next (oraOp (.mem (.abx d16)) 4 s)

/-- ORA, `19` aby 4+ (R191). -/
def execOraAby (d16 : Word) (s : State) : Result := .next (oraOp (.mem (.aby d16)) 4 s)

/-- ORA, `01` izx 6 (R191). -/
def execOraIzx (d : Byte) (s : State) : Result := .next (oraOp (.mem (.izx d)) 6 s)

/-- ORA, `11` izy 5+ (R191). -/
def execOraIzy (d : Byte) (s : State) : Result := .next (oraOp (.mem (.izy d)) 5 s)

/-- EOR, `49` imm 2 (R192). -/
def execEorImm (d : Byte) (s : State) : Result := .next (eorOp (.imm d) 2 s)

/-- EOR, `45` zp 3 (R192). -/
def execEorZp (d : Byte) (s : State) : Result := .next (eorOp (.mem (.zp d)) 3 s)

/-- EOR, `55` zpx 4 (R192). -/
def execEorZpx (d : Byte) (s : State) : Result := .next (eorOp (.mem (.zpx d)) 4 s)

/-- EOR, `4D` abs 4 (R192). -/
def execEorAbs (d16 : Word) (s : State) : Result := .next (eorOp (.mem (.abs d16)) 4 s)

/-- EOR, `5D` abx 4+ (R192). -/
def execEorAbx (d16 : Word) (s : State) : Result := .next (eorOp (.mem (.abx d16)) 4 s)

/-- EOR, `59` aby 4+ (R192). -/
def execEorAby (d16 : Word) (s : State) : Result := .next (eorOp (.mem (.aby d16)) 4 s)

/-- EOR, `41` izx 6 (R192). -/
def execEorIzx (d : Byte) (s : State) : Result := .next (eorOp (.mem (.izx d)) 6 s)

/-- EOR, `51` izy 5+ (R192). -/
def execEorIzy (d : Byte) (s : State) : Result := .next (eorOp (.mem (.izy d)) 5 s)

/-- BIT, `24` zp 3 (R193). -/
def execBitZp (d : Byte) (s : State) : Result := .next (bitOp (.mem (.zp d)) 3 s)

/-- BIT, `2C` abs 4 (R193). -/
def execBitAbs (d16 : Word) (s : State) : Result := .next (bitOp (.mem (.abs d16)) 4 s)

/-- ASL, `0A` acc 2 (R194). -/
def execAslAcc (s : State) : Result := .next (aslOp .acc 2 s)

/-- ASL, `06` zp 5 (R194). -/
def execAslZp (d : Byte) (s : State) : Result := .next (aslOp (.mem (.zp d)) 5 s)

/-- ASL, `16` zpx 6 (R194). -/
def execAslZpx (d : Byte) (s : State) : Result := .next (aslOp (.mem (.zpx d)) 6 s)

/-- ASL, `0E` abs 6 (R194). -/
def execAslAbs (d16 : Word) (s : State) : Result := .next (aslOp (.mem (.abs d16)) 6 s)

/-- ASL, `1E` abx 7 (R194). -/
def execAslAbx (d16 : Word) (s : State) : Result := .next (aslOp (.mem (.abx d16)) 7 s)

/-- LSR, `4A` acc 2 (R195). -/
def execLsrAcc (s : State) : Result := .next (lsrOp .acc 2 s)

/-- LSR, `46` zp 5 (R195). -/
def execLsrZp (d : Byte) (s : State) : Result := .next (lsrOp (.mem (.zp d)) 5 s)

/-- LSR, `56` zpx 6 (R195). -/
def execLsrZpx (d : Byte) (s : State) : Result := .next (lsrOp (.mem (.zpx d)) 6 s)

/-- LSR, `4E` abs 6 (R195). -/
def execLsrAbs (d16 : Word) (s : State) : Result := .next (lsrOp (.mem (.abs d16)) 6 s)

/-- LSR, `5E` abx 7 (R195). -/
def execLsrAbx (d16 : Word) (s : State) : Result := .next (lsrOp (.mem (.abx d16)) 7 s)

/-- ROL, `2A` acc 2 (R196). -/
def execRolAcc (s : State) : Result := .next (rolOp .acc 2 s)

/-- ROL, `26` zp 5 (R196). -/
def execRolZp (d : Byte) (s : State) : Result := .next (rolOp (.mem (.zp d)) 5 s)

/-- ROL, `36` zpx 6 (R196). -/
def execRolZpx (d : Byte) (s : State) : Result := .next (rolOp (.mem (.zpx d)) 6 s)

/-- ROL, `2E` abs 6 (R196). -/
def execRolAbs (d16 : Word) (s : State) : Result := .next (rolOp (.mem (.abs d16)) 6 s)

/-- ROL, `3E` abx 7 (R196). -/
def execRolAbx (d16 : Word) (s : State) : Result := .next (rolOp (.mem (.abx d16)) 7 s)

/-- ROR, `6A` acc 2 (R197). -/
def execRorAcc (s : State) : Result := .next (rorOp .acc 2 s)

/-- ROR, `66` zp 5 (R197). -/
def execRorZp (d : Byte) (s : State) : Result := .next (rorOp (.mem (.zp d)) 5 s)

/-- ROR, `76` zpx 6 (R197). -/
def execRorZpx (d : Byte) (s : State) : Result := .next (rorOp (.mem (.zpx d)) 6 s)

/-- ROR, `6E` abs 6 (R197). -/
def execRorAbs (d16 : Word) (s : State) : Result := .next (rorOp (.mem (.abs d16)) 6 s)

/-- ROR, `7E` abx 7 (R197). -/
def execRorAbx (d16 : Word) (s : State) : Result := .next (rorOp (.mem (.abx d16)) 7 s)

end Sys2Proof.Machine
end

