-- ==== Sys2Proof/Machine/Stack.lean ====
section
/-! DEFINITION. Stack instructions (41_stack.md R160 to R163). -/

namespace Sys2Proof.Machine

/-- PHA, `48` imp 3 (R160). -/
def execPha (s : State) : Result :=
  .next ((push s.cpu.a s).addCycles 3)

/-- PHP, `08` imp 3 (R161). -/
def execPhp (s : State) : Result :=
  .next ((push (statusPushedByInstruction s.cpu.p) s).addCycles 3)

/-- PLA, `68` imp 4 (R162). -/
def execPla (s : State) : Result :=
  .next (((pull s).2.loadA (pull s).1).addCycles 4)

/-- PLP, `28` imp 4 (R163). -/
def execPlp (s : State) : Result :=
  .next ((pullStatus s).addCycles 4)

end Sys2Proof.Machine
end

