-- ==== Sys2Proof/Machine/Dispatch.lean ====
section
/-! DEFINITION. One arm for each instruction. -/

namespace Sys2Proof.Machine

def exec (i : Instr) (s : State) : Host.Outcome State Fault Refusal :=
  match i with
  | .ldaImm d => Sys2Proof.Machine.execLdaImm d s
  | .ldaZp d => Sys2Proof.Machine.execLdaZp d s
  | .ldaZpx d => Sys2Proof.Machine.execLdaZpx d s
  | .ldaAbs d16 => Sys2Proof.Machine.execLdaAbs d16 s
  | .ldaAbx d16 => Sys2Proof.Machine.execLdaAbx d16 s
  | .ldaAby d16 => Sys2Proof.Machine.execLdaAby d16 s
  | .ldaIzx d => Sys2Proof.Machine.execLdaIzx d s
  | .ldaIzy d => Sys2Proof.Machine.execLdaIzy d s
  | .ldxImm d => Sys2Proof.Machine.execLdxImm d s
  | .ldxZp d => Sys2Proof.Machine.execLdxZp d s
  | .ldxZpy d => Sys2Proof.Machine.execLdxZpy d s
  | .ldxAbs d16 => Sys2Proof.Machine.execLdxAbs d16 s
  | .ldxAby d16 => Sys2Proof.Machine.execLdxAby d16 s
  | .ldyImm d => Sys2Proof.Machine.execLdyImm d s
  | .ldyZp d => Sys2Proof.Machine.execLdyZp d s
  | .ldyZpx d => Sys2Proof.Machine.execLdyZpx d s
  | .ldyAbs d16 => Sys2Proof.Machine.execLdyAbs d16 s
  | .ldyAbx d16 => Sys2Proof.Machine.execLdyAbx d16 s
  | .staZp d => Sys2Proof.Machine.execStaZp d s
  | .staZpx d => Sys2Proof.Machine.execStaZpx d s
  | .staAbs d16 => Sys2Proof.Machine.execStaAbs d16 s
  | .staAbx d16 => Sys2Proof.Machine.execStaAbx d16 s
  | .staAby d16 => Sys2Proof.Machine.execStaAby d16 s
  | .staIzx d => Sys2Proof.Machine.execStaIzx d s
  | .staIzy d => Sys2Proof.Machine.execStaIzy d s
  | .stxZp d => Sys2Proof.Machine.execStxZp d s
  | .stxZpy d => Sys2Proof.Machine.execStxZpy d s
  | .stxAbs d16 => Sys2Proof.Machine.execStxAbs d16 s
  | .styZp d => Sys2Proof.Machine.execStyZp d s
  | .styZpx d => Sys2Proof.Machine.execStyZpx d s
  | .styAbs d16 => Sys2Proof.Machine.execStyAbs d16 s
  | .tax => Sys2Proof.Machine.execTax s
  | .tay => Sys2Proof.Machine.execTay s
  | .txa => Sys2Proof.Machine.execTxa s
  | .tya => Sys2Proof.Machine.execTya s
  | .tsx => Sys2Proof.Machine.execTsx s
  | .txs => Sys2Proof.Machine.execTxs s
  | .pha => Sys2Proof.Machine.execPha s
  | .php => Sys2Proof.Machine.execPhp s
  | .pla => Sys2Proof.Machine.execPla s
  | .plp => Sys2Proof.Machine.execPlp s
  | .adcImm d => Sys2Proof.Machine.execAdcImm d s
  | .adcZp d => Sys2Proof.Machine.execAdcZp d s
  | .adcZpx d => Sys2Proof.Machine.execAdcZpx d s
  | .adcAbs d16 => Sys2Proof.Machine.execAdcAbs d16 s
  | .adcAbx d16 => Sys2Proof.Machine.execAdcAbx d16 s
  | .adcAby d16 => Sys2Proof.Machine.execAdcAby d16 s
  | .adcIzx d => Sys2Proof.Machine.execAdcIzx d s
  | .adcIzy d => Sys2Proof.Machine.execAdcIzy d s
  | .sbcImm d => Sys2Proof.Machine.execSbcImm d s
  | .sbcZp d => Sys2Proof.Machine.execSbcZp d s
  | .sbcZpx d => Sys2Proof.Machine.execSbcZpx d s
  | .sbcAbs d16 => Sys2Proof.Machine.execSbcAbs d16 s
  | .sbcAbx d16 => Sys2Proof.Machine.execSbcAbx d16 s
  | .sbcAby d16 => Sys2Proof.Machine.execSbcAby d16 s
  | .sbcIzx d => Sys2Proof.Machine.execSbcIzx d s
  | .sbcIzy d => Sys2Proof.Machine.execSbcIzy d s
  | .cmpImm d => Sys2Proof.Machine.execCmpImm d s
  | .cmpZp d => Sys2Proof.Machine.execCmpZp d s
  | .cmpZpx d => Sys2Proof.Machine.execCmpZpx d s
  | .cmpAbs d16 => Sys2Proof.Machine.execCmpAbs d16 s
  | .cmpAbx d16 => Sys2Proof.Machine.execCmpAbx d16 s
  | .cmpAby d16 => Sys2Proof.Machine.execCmpAby d16 s
  | .cmpIzx d => Sys2Proof.Machine.execCmpIzx d s
  | .cmpIzy d => Sys2Proof.Machine.execCmpIzy d s
  | .cpxImm d => Sys2Proof.Machine.execCpxImm d s
  | .cpxZp d => Sys2Proof.Machine.execCpxZp d s
  | .cpxAbs d16 => Sys2Proof.Machine.execCpxAbs d16 s
  | .cpyImm d => Sys2Proof.Machine.execCpyImm d s
  | .cpyZp d => Sys2Proof.Machine.execCpyZp d s
  | .cpyAbs d16 => Sys2Proof.Machine.execCpyAbs d16 s
  | .incZp d => Sys2Proof.Machine.execIncZp d s
  | .incZpx d => Sys2Proof.Machine.execIncZpx d s
  | .incAbs d16 => Sys2Proof.Machine.execIncAbs d16 s
  | .incAbx d16 => Sys2Proof.Machine.execIncAbx d16 s
  | .inx => Sys2Proof.Machine.execInx s
  | .iny => Sys2Proof.Machine.execIny s
  | .decZp d => Sys2Proof.Machine.execDecZp d s
  | .decZpx d => Sys2Proof.Machine.execDecZpx d s
  | .decAbs d16 => Sys2Proof.Machine.execDecAbs d16 s
  | .decAbx d16 => Sys2Proof.Machine.execDecAbx d16 s
  | .dex => Sys2Proof.Machine.execDex s
  | .dey => Sys2Proof.Machine.execDey s
  | .andImm d => Sys2Proof.Machine.execAndImm d s
  | .andZp d => Sys2Proof.Machine.execAndZp d s
  | .andZpx d => Sys2Proof.Machine.execAndZpx d s
  | .andAbs d16 => Sys2Proof.Machine.execAndAbs d16 s
  | .andAbx d16 => Sys2Proof.Machine.execAndAbx d16 s
  | .andAby d16 => Sys2Proof.Machine.execAndAby d16 s
  | .andIzx d => Sys2Proof.Machine.execAndIzx d s
  | .andIzy d => Sys2Proof.Machine.execAndIzy d s
  | .oraImm d => Sys2Proof.Machine.execOraImm d s
  | .oraZp d => Sys2Proof.Machine.execOraZp d s
  | .oraZpx d => Sys2Proof.Machine.execOraZpx d s
  | .oraAbs d16 => Sys2Proof.Machine.execOraAbs d16 s
  | .oraAbx d16 => Sys2Proof.Machine.execOraAbx d16 s
  | .oraAby d16 => Sys2Proof.Machine.execOraAby d16 s
  | .oraIzx d => Sys2Proof.Machine.execOraIzx d s
  | .oraIzy d => Sys2Proof.Machine.execOraIzy d s
  | .eorImm d => Sys2Proof.Machine.execEorImm d s
  | .eorZp d => Sys2Proof.Machine.execEorZp d s
  | .eorZpx d => Sys2Proof.Machine.execEorZpx d s
  | .eorAbs d16 => Sys2Proof.Machine.execEorAbs d16 s
  | .eorAbx d16 => Sys2Proof.Machine.execEorAbx d16 s
  | .eorAby d16 => Sys2Proof.Machine.execEorAby d16 s
  | .eorIzx d => Sys2Proof.Machine.execEorIzx d s
  | .eorIzy d => Sys2Proof.Machine.execEorIzy d s
  | .bitZp d => Sys2Proof.Machine.execBitZp d s
  | .bitAbs d16 => Sys2Proof.Machine.execBitAbs d16 s
  | .aslAcc => Sys2Proof.Machine.execAslAcc s
  | .aslZp d => Sys2Proof.Machine.execAslZp d s
  | .aslZpx d => Sys2Proof.Machine.execAslZpx d s
  | .aslAbs d16 => Sys2Proof.Machine.execAslAbs d16 s
  | .aslAbx d16 => Sys2Proof.Machine.execAslAbx d16 s
  | .lsrAcc => Sys2Proof.Machine.execLsrAcc s
  | .lsrZp d => Sys2Proof.Machine.execLsrZp d s
  | .lsrZpx d => Sys2Proof.Machine.execLsrZpx d s
  | .lsrAbs d16 => Sys2Proof.Machine.execLsrAbs d16 s
  | .lsrAbx d16 => Sys2Proof.Machine.execLsrAbx d16 s
  | .rolAcc => Sys2Proof.Machine.execRolAcc s
  | .rolZp d => Sys2Proof.Machine.execRolZp d s
  | .rolZpx d => Sys2Proof.Machine.execRolZpx d s
  | .rolAbs d16 => Sys2Proof.Machine.execRolAbs d16 s
  | .rolAbx d16 => Sys2Proof.Machine.execRolAbx d16 s
  | .rorAcc => Sys2Proof.Machine.execRorAcc s
  | .rorZp d => Sys2Proof.Machine.execRorZp d s
  | .rorZpx d => Sys2Proof.Machine.execRorZpx d s
  | .rorAbs d16 => Sys2Proof.Machine.execRorAbs d16 s
  | .rorAbx d16 => Sys2Proof.Machine.execRorAbx d16 s
  | .jmpAbs d16 => Sys2Proof.Machine.execJmpAbs d16 s
  | .jmpInd d16 => Sys2Proof.Machine.execJmpInd d16 s
  | .jsr d16 => Sys2Proof.Machine.execJsr d16 s
  | .rts => Sys2Proof.Machine.execRts s
  | .bcc d => Sys2Proof.Machine.execBcc d s
  | .bcs d => Sys2Proof.Machine.execBcs d s
  | .beq d => Sys2Proof.Machine.execBeq d s
  | .bne d => Sys2Proof.Machine.execBne d s
  | .bmi d => Sys2Proof.Machine.execBmi d s
  | .bpl d => Sys2Proof.Machine.execBpl d s
  | .bvc d => Sys2Proof.Machine.execBvc d s
  | .bvs d => Sys2Proof.Machine.execBvs d s
  | .clc => Sys2Proof.Machine.execClc s
  | .sec => Sys2Proof.Machine.execSec s
  | .cli => Sys2Proof.Machine.execCli s
  | .sei => Sys2Proof.Machine.execSei s
  | .clv => Sys2Proof.Machine.execClv s
  | .cld => Sys2Proof.Machine.execCld s
  | .sed => Sys2Proof.Machine.execSed s
  | .nop => Sys2Proof.Machine.execNop s
  | .brk => Sys2Proof.Machine.execBrk s
  | .rti => Sys2Proof.Machine.execRti s

end Sys2Proof.Machine
end

