-- ==== Sys2Proof/Decode.lean ====
section
/-! DEFINITION. The decoder, from the opcode map of 30_encoding.md R121 (all 151 rows) and the formats of R101, and after
it the encoder, from the "Encodings" line of each instruction's rule (files 40 to 45). -/

namespace Sys2Proof

open Machine (w16 hi lo)

/-- What an opcode byte selects: an instruction, or one that still wants the operand of its format (R101). -/
inductive Template
  | f1 (i : Instr)
  | f2 (build : Byte → Instr)
  | f3 (build : Word → Instr)

/-- Row 0x of R121. -/
def opcodeRow0 : List (Nat × Template) :=
  [(0x00, .f1 .brk), (0x01, .f2 .oraIzx), (0x05, .f2 .oraZp), (0x06, .f2 .aslZp),
   (0x08, .f1 .php), (0x09, .f2 .oraImm), (0x0A, .f1 .aslAcc), (0x0D, .f3 .oraAbs),
   (0x0E, .f3 .aslAbs)]

/-- Row 1x of R121. -/
def opcodeRow1 : List (Nat × Template) :=
  [(0x10, .f2 .bpl), (0x11, .f2 .oraIzy), (0x15, .f2 .oraZpx), (0x16, .f2 .aslZpx),
   (0x18, .f1 .clc), (0x19, .f3 .oraAby), (0x1D, .f3 .oraAbx), (0x1E, .f3 .aslAbx)]

/-- Row 2x of R121. -/
def opcodeRow2 : List (Nat × Template) :=
  [(0x20, .f3 .jsr), (0x21, .f2 .andIzx), (0x24, .f2 .bitZp), (0x25, .f2 .andZp),
   (0x26, .f2 .rolZp), (0x28, .f1 .plp), (0x29, .f2 .andImm), (0x2A, .f1 .rolAcc),
   (0x2C, .f3 .bitAbs), (0x2D, .f3 .andAbs), (0x2E, .f3 .rolAbs)]

/-- Row 3x of R121. -/
def opcodeRow3 : List (Nat × Template) :=
  [(0x30, .f2 .bmi), (0x31, .f2 .andIzy), (0x35, .f2 .andZpx), (0x36, .f2 .rolZpx),
   (0x38, .f1 .sec), (0x39, .f3 .andAby), (0x3D, .f3 .andAbx), (0x3E, .f3 .rolAbx)]

/-- Row 4x of R121. -/
def opcodeRow4 : List (Nat × Template) :=
  [(0x40, .f1 .rti), (0x41, .f2 .eorIzx), (0x45, .f2 .eorZp), (0x46, .f2 .lsrZp),
   (0x48, .f1 .pha), (0x49, .f2 .eorImm), (0x4A, .f1 .lsrAcc), (0x4C, .f3 .jmpAbs),
   (0x4D, .f3 .eorAbs), (0x4E, .f3 .lsrAbs)]

/-- Row 5x of R121. -/
def opcodeRow5 : List (Nat × Template) :=
  [(0x50, .f2 .bvc), (0x51, .f2 .eorIzy), (0x55, .f2 .eorZpx), (0x56, .f2 .lsrZpx),
   (0x58, .f1 .cli), (0x59, .f3 .eorAby), (0x5D, .f3 .eorAbx), (0x5E, .f3 .lsrAbx)]

/-- Row 6x of R121. -/
def opcodeRow6 : List (Nat × Template) :=
  [(0x60, .f1 .rts), (0x61, .f2 .adcIzx), (0x65, .f2 .adcZp), (0x66, .f2 .rorZp),
   (0x68, .f1 .pla), (0x69, .f2 .adcImm), (0x6A, .f1 .rorAcc), (0x6C, .f3 .jmpInd),
   (0x6D, .f3 .adcAbs), (0x6E, .f3 .rorAbs)]

/-- Row 7x of R121. -/
def opcodeRow7 : List (Nat × Template) :=
  [(0x70, .f2 .bvs), (0x71, .f2 .adcIzy), (0x75, .f2 .adcZpx), (0x76, .f2 .rorZpx),
   (0x78, .f1 .sei), (0x79, .f3 .adcAby), (0x7D, .f3 .adcAbx), (0x7E, .f3 .rorAbx)]

/-- Row 8x of R121. -/
def opcodeRow8 : List (Nat × Template) :=
  [(0x81, .f2 .staIzx), (0x84, .f2 .styZp), (0x85, .f2 .staZp), (0x86, .f2 .stxZp),
   (0x88, .f1 .dey), (0x8A, .f1 .txa), (0x8C, .f3 .styAbs), (0x8D, .f3 .staAbs),
   (0x8E, .f3 .stxAbs)]

/-- Row 9x of R121. -/
def opcodeRow9 : List (Nat × Template) :=
  [(0x90, .f2 .bcc), (0x91, .f2 .staIzy), (0x94, .f2 .styZpx), (0x95, .f2 .staZpx),
   (0x96, .f2 .stxZpy), (0x98, .f1 .tya), (0x99, .f3 .staAby), (0x9A, .f1 .txs),
   (0x9D, .f3 .staAbx)]

/-- Row Ax of R121. -/
def opcodeRowA : List (Nat × Template) :=
  [(0xA0, .f2 .ldyImm), (0xA1, .f2 .ldaIzx), (0xA2, .f2 .ldxImm), (0xA4, .f2 .ldyZp),
   (0xA5, .f2 .ldaZp), (0xA6, .f2 .ldxZp), (0xA8, .f1 .tay), (0xA9, .f2 .ldaImm),
   (0xAA, .f1 .tax), (0xAC, .f3 .ldyAbs), (0xAD, .f3 .ldaAbs), (0xAE, .f3 .ldxAbs)]

/-- Row Bx of R121. -/
def opcodeRowB : List (Nat × Template) :=
  [(0xB0, .f2 .bcs), (0xB1, .f2 .ldaIzy), (0xB4, .f2 .ldyZpx), (0xB5, .f2 .ldaZpx),
   (0xB6, .f2 .ldxZpy), (0xB8, .f1 .clv), (0xB9, .f3 .ldaAby), (0xBA, .f1 .tsx),
   (0xBC, .f3 .ldyAbx), (0xBD, .f3 .ldaAbx), (0xBE, .f3 .ldxAby)]

/-- Row Cx of R121. -/
def opcodeRowC : List (Nat × Template) :=
  [(0xC0, .f2 .cpyImm), (0xC1, .f2 .cmpIzx), (0xC4, .f2 .cpyZp), (0xC5, .f2 .cmpZp),
   (0xC6, .f2 .decZp), (0xC8, .f1 .iny), (0xC9, .f2 .cmpImm), (0xCA, .f1 .dex),
   (0xCC, .f3 .cpyAbs), (0xCD, .f3 .cmpAbs), (0xCE, .f3 .decAbs)]

/-- Row Dx of R121. -/
def opcodeRowD : List (Nat × Template) :=
  [(0xD0, .f2 .bne), (0xD1, .f2 .cmpIzy), (0xD5, .f2 .cmpZpx), (0xD6, .f2 .decZpx),
   (0xD8, .f1 .cld), (0xD9, .f3 .cmpAby), (0xDD, .f3 .cmpAbx), (0xDE, .f3 .decAbx)]

/-- Row Ex of R121. -/
def opcodeRowE : List (Nat × Template) :=
  [(0xE0, .f2 .cpxImm), (0xE1, .f2 .sbcIzx), (0xE4, .f2 .cpxZp), (0xE5, .f2 .sbcZp),
   (0xE6, .f2 .incZp), (0xE8, .f1 .inx), (0xE9, .f2 .sbcImm), (0xEA, .f1 .nop),
   (0xEC, .f3 .cpxAbs), (0xED, .f3 .sbcAbs), (0xEE, .f3 .incAbs)]

/-- Row Fx of R121. -/
def opcodeRowF : List (Nat × Template) :=
  [(0xF0, .f2 .beq), (0xF1, .f2 .sbcIzy), (0xF5, .f2 .sbcZpx), (0xF6, .f2 .incZpx),
   (0xF8, .f1 .sed), (0xF9, .f3 .sbcAby), (0xFD, .f3 .sbcAbx), (0xFE, .f3 .incAbx)]

/-- The rows of the opcode map by the high half of the opcode byte (R121). -/
def opcodeRows : Nat → List (Nat × Template)
  | 0 => opcodeRow0
  | 1 => opcodeRow1
  | 2 => opcodeRow2
  | 3 => opcodeRow3
  | 4 => opcodeRow4
  | 5 => opcodeRow5
  | 6 => opcodeRow6
  | 7 => opcodeRow7
  | 8 => opcodeRow8
  | 9 => opcodeRow9
  | 10 => opcodeRowA
  | 11 => opcodeRowB
  | 12 => opcodeRowC
  | 13 => opcodeRowD
  | 14 => opcodeRowE
  | _ => opcodeRowF

/-- The entry of an opcode number in a row. -/
def findRow (n : Nat) : List (Nat × Template) → Option Template
  | [] => none
  | (k, t) :: rows => if k = n then some t else findRow n rows

/-- `lookup(op)` of R102: none for the 105 illegal bytes (R128). -/
def opcodeMap (op : Byte) : Option Template := findRow op.toNat (opcodeRows (op.toNat / 16))

/-- Why a byte sequence decodes to no instruction. -/
inductive DecodeError
  /-- There is no opcode byte. -/
  | noByte
  /-- The opcode byte is one of the 105 of R128. -/
  | illegalOpcode (op : Byte)
  /-- The operand bytes of the opcode's format are not all there (R101). -/
  | truncated (op : Byte)
  deriving DecidableEq, Repr

/-- The decoder: the instruction at the head of a byte sequence and the bytes after it, or the reason why there is
none (R100 to R102, R128). -/
def decode : List Byte → Except DecodeError (Instr × List Byte)
  | [] => .error .noByte
  | op :: rest =>
    match opcodeMap op with
    | none => .error (.illegalOpcode op)
    | some (.f1 i) => .ok (i, rest)
    | some (.f2 build) =>
      match rest with
      | d :: tail => .ok (build d, tail)
      | []        => .error (.truncated op)
    | some (.f3 build) =>
      match rest with
      | l :: h :: tail => .ok (build (w16 h l), tail)
      | [_]            => .error (.truncated op)
      | []             => .error (.truncated op)

/-- The bytes of format F2 (R101). -/
def bytesF2 (op d : Byte) : List Byte := [op, d]

/-- The bytes of format F3 (R101): the operand's low byte first. -/
def bytesF3 (op : Byte) (d16 : Word) : List Byte := [op, lo d16, hi d16]

/-- The encoder: the opcode byte each instruction's own rule gives, then the operand bytes of its format (R101). -/
def encode : Instr → List Byte
  | .ldaImm d => bytesF2 0xA9 d
  | .ldaZp d => bytesF2 0xA5 d
  | .ldaZpx d => bytesF2 0xB5 d
  | .ldaAbs d16 => bytesF3 0xAD d16
  | .ldaAbx d16 => bytesF3 0xBD d16
  | .ldaAby d16 => bytesF3 0xB9 d16
  | .ldaIzx d => bytesF2 0xA1 d
  | .ldaIzy d => bytesF2 0xB1 d
  | .ldxImm d => bytesF2 0xA2 d
  | .ldxZp d => bytesF2 0xA6 d
  | .ldxZpy d => bytesF2 0xB6 d
  | .ldxAbs d16 => bytesF3 0xAE d16
  | .ldxAby d16 => bytesF3 0xBE d16
  | .ldyImm d => bytesF2 0xA0 d
  | .ldyZp d => bytesF2 0xA4 d
  | .ldyZpx d => bytesF2 0xB4 d
  | .ldyAbs d16 => bytesF3 0xAC d16
  | .ldyAbx d16 => bytesF3 0xBC d16
  | .staZp d => bytesF2 0x85 d
  | .staZpx d => bytesF2 0x95 d
  | .staAbs d16 => bytesF3 0x8D d16
  | .staAbx d16 => bytesF3 0x9D d16
  | .staAby d16 => bytesF3 0x99 d16
  | .staIzx d => bytesF2 0x81 d
  | .staIzy d => bytesF2 0x91 d
  | .stxZp d => bytesF2 0x86 d
  | .stxZpy d => bytesF2 0x96 d
  | .stxAbs d16 => bytesF3 0x8E d16
  | .styZp d => bytesF2 0x84 d
  | .styZpx d => bytesF2 0x94 d
  | .styAbs d16 => bytesF3 0x8C d16
  | .tax => [0xAA]
  | .tay => [0xA8]
  | .txa => [0x8A]
  | .tya => [0x98]
  | .tsx => [0xBA]
  | .txs => [0x9A]
  | .pha => [0x48]
  | .php => [0x08]
  | .pla => [0x68]
  | .plp => [0x28]
  | .adcImm d => bytesF2 0x69 d
  | .adcZp d => bytesF2 0x65 d
  | .adcZpx d => bytesF2 0x75 d
  | .adcAbs d16 => bytesF3 0x6D d16
  | .adcAbx d16 => bytesF3 0x7D d16
  | .adcAby d16 => bytesF3 0x79 d16
  | .adcIzx d => bytesF2 0x61 d
  | .adcIzy d => bytesF2 0x71 d
  | .sbcImm d => bytesF2 0xE9 d
  | .sbcZp d => bytesF2 0xE5 d
  | .sbcZpx d => bytesF2 0xF5 d
  | .sbcAbs d16 => bytesF3 0xED d16
  | .sbcAbx d16 => bytesF3 0xFD d16
  | .sbcAby d16 => bytesF3 0xF9 d16
  | .sbcIzx d => bytesF2 0xE1 d
  | .sbcIzy d => bytesF2 0xF1 d
  | .cmpImm d => bytesF2 0xC9 d
  | .cmpZp d => bytesF2 0xC5 d
  | .cmpZpx d => bytesF2 0xD5 d
  | .cmpAbs d16 => bytesF3 0xCD d16
  | .cmpAbx d16 => bytesF3 0xDD d16
  | .cmpAby d16 => bytesF3 0xD9 d16
  | .cmpIzx d => bytesF2 0xC1 d
  | .cmpIzy d => bytesF2 0xD1 d
  | .cpxImm d => bytesF2 0xE0 d
  | .cpxZp d => bytesF2 0xE4 d
  | .cpxAbs d16 => bytesF3 0xEC d16
  | .cpyImm d => bytesF2 0xC0 d
  | .cpyZp d => bytesF2 0xC4 d
  | .cpyAbs d16 => bytesF3 0xCC d16
  | .incZp d => bytesF2 0xE6 d
  | .incZpx d => bytesF2 0xF6 d
  | .incAbs d16 => bytesF3 0xEE d16
  | .incAbx d16 => bytesF3 0xFE d16
  | .inx => [0xE8]
  | .iny => [0xC8]
  | .decZp d => bytesF2 0xC6 d
  | .decZpx d => bytesF2 0xD6 d
  | .decAbs d16 => bytesF3 0xCE d16
  | .decAbx d16 => bytesF3 0xDE d16
  | .dex => [0xCA]
  | .dey => [0x88]
  | .andImm d => bytesF2 0x29 d
  | .andZp d => bytesF2 0x25 d
  | .andZpx d => bytesF2 0x35 d
  | .andAbs d16 => bytesF3 0x2D d16
  | .andAbx d16 => bytesF3 0x3D d16
  | .andAby d16 => bytesF3 0x39 d16
  | .andIzx d => bytesF2 0x21 d
  | .andIzy d => bytesF2 0x31 d
  | .oraImm d => bytesF2 0x09 d
  | .oraZp d => bytesF2 0x05 d
  | .oraZpx d => bytesF2 0x15 d
  | .oraAbs d16 => bytesF3 0x0D d16
  | .oraAbx d16 => bytesF3 0x1D d16
  | .oraAby d16 => bytesF3 0x19 d16
  | .oraIzx d => bytesF2 0x01 d
  | .oraIzy d => bytesF2 0x11 d
  | .eorImm d => bytesF2 0x49 d
  | .eorZp d => bytesF2 0x45 d
  | .eorZpx d => bytesF2 0x55 d
  | .eorAbs d16 => bytesF3 0x4D d16
  | .eorAbx d16 => bytesF3 0x5D d16
  | .eorAby d16 => bytesF3 0x59 d16
  | .eorIzx d => bytesF2 0x41 d
  | .eorIzy d => bytesF2 0x51 d
  | .bitZp d => bytesF2 0x24 d
  | .bitAbs d16 => bytesF3 0x2C d16
  | .aslAcc => [0x0A]
  | .aslZp d => bytesF2 0x06 d
  | .aslZpx d => bytesF2 0x16 d
  | .aslAbs d16 => bytesF3 0x0E d16
  | .aslAbx d16 => bytesF3 0x1E d16
  | .lsrAcc => [0x4A]
  | .lsrZp d => bytesF2 0x46 d
  | .lsrZpx d => bytesF2 0x56 d
  | .lsrAbs d16 => bytesF3 0x4E d16
  | .lsrAbx d16 => bytesF3 0x5E d16
  | .rolAcc => [0x2A]
  | .rolZp d => bytesF2 0x26 d
  | .rolZpx d => bytesF2 0x36 d
  | .rolAbs d16 => bytesF3 0x2E d16
  | .rolAbx d16 => bytesF3 0x3E d16
  | .rorAcc => [0x6A]
  | .rorZp d => bytesF2 0x66 d
  | .rorZpx d => bytesF2 0x76 d
  | .rorAbs d16 => bytesF3 0x6E d16
  | .rorAbx d16 => bytesF3 0x7E d16
  | .jmpAbs d16 => bytesF3 0x4C d16
  | .jmpInd d16 => bytesF3 0x6C d16
  | .jsr d16 => bytesF3 0x20 d16
  | .rts => [0x60]
  | .bcc d => bytesF2 0x90 d
  | .bcs d => bytesF2 0xB0 d
  | .beq d => bytesF2 0xF0 d
  | .bne d => bytesF2 0xD0 d
  | .bmi d => bytesF2 0x30 d
  | .bpl d => bytesF2 0x10 d
  | .bvc d => bytesF2 0x50 d
  | .bvs d => bytesF2 0x70 d
  | .clc => [0x18]
  | .sec => [0x38]
  | .cli => [0x58]
  | .sei => [0x78]
  | .clv => [0xB8]
  | .cld => [0xD8]
  | .sed => [0xF8]
  | .nop => [0xEA]
  | .brk => [0x00]
  | .rti => [0x40]

/-- Byte `k` of a word numbered as opcode_table.json numbers it: byte `k` holds bits `8k+7..8k`. -/
def tableByte (nbits w k : Nat) : Byte := BitVec.ofNat 8 (w % 2 ^ nbits / 2 ^ (8 * k))

/-- The longest instruction's bytes of such a word (R100: at most three); bits above `nbits` are 0. -/
def tableBytes (nbits w : Nat) : List Byte := [tableByte nbits w 0, tableByte nbits w 1, tableByte nbits w 2]

/-- The instruction the decoder reads from an opcode-table word. -/
def decodeTableWord (nbits w : Nat) : Option Instr :=
  match decode (tableBytes nbits w) with
  | .ok (i, _) => some i
  | .error _   => none

end Sys2Proof
end

