-- ==== Sys2Proof/Machine/Fetch.lean ====
section
/-! DEFINITION. Fetch and decode (30_encoding.md R102), and placing an instruction where the next fetch reads it. -/

namespace Sys2Proof.Machine

/-- What a fetch gives: an instruction and the state with PC after it, or an illegal opcode byte and the state with PC
still at it. -/
inductive Fetched
  | instr (i : Instr) (s : State)
  | illegal (opcode : Byte) (s : State)
  deriving DecidableEq, Repr

/-- `d8 <- MemRead(PC, 1); PC <- PC + 1` (R102). -/
def fetchByte (s : State) : Byte × State :=
  ((memRead s.cpu.pc s).1, (memRead s.cpu.pc s).2.setPC (s.cpu.pc + 1))

/-- Fetch and decode (R102): the operand bytes of the format are read in ascending order. -/
def fetch (s : State) : Fetched :=
  let o := fetchByte s
  match opcodeMap o.1 with
  | none => .illegal o.1 (memRead s.cpu.pc s).2
  | some (.f1 i) => .instr i o.2
  | some (.f2 build) =>
    let d := fetchByte o.2
    .instr (build d.1) d.2
  | some (.f3 build) =>
    let l := fetchByte o.2
    let h := fetchByte l.2
    .instr (build (w16 h.1 l.1)) h.2

/-- Whether a byte placed at `addr` by the loader or the host is what a fetch at `addr` reads: RAM, or ROM or present
RAM of the no-bank-switching cartridge. -/
def placeable (addr : Word) (s : State) : Bool :=
  match busTarget addr with
  | .ram _ => true
  | .cart =>
    match s.cart with
    | .plain c => decide (0x8000 ≤ addr.toNat) || (decide (0x6000 ≤ addr.toNat) && c.prgRam.isSome)
    | .other _ => false
  | _ => false

/-- The cartridge with a byte of its image or RAM placed from outside. -/
def PlainCart.place (c : PlainCart) (addr : Word) (v : Byte) : PlainCart :=
  if 0x8000 ≤ addr.toNat then { c with prgRom := Memory.write c.prgRom ((addr.toNat - 0x8000) % c.prgLen) v }
  else c.prgRamWrite (addr.toNat - 0x6000) v

/-- As `PlainCart.place`; a cartridge with another mapper is no place for one. -/
def Cart.place (c : Cart) (addr : Word) (v : Byte) : Cart :=
  match c with
  | .plain p => .plain (p.place addr v)
  | .other _ => c

/-- A byte placed from outside where a fetch at `addr` reads it. -/
def place (addr : Word) (v : Byte) (s : State) : State :=
  match busTarget addr with
  | .ram offset => { s with ram := Memory.write s.ram offset v }
  | .cart       => { s with cart := s.cart.place addr v }
  | _           => s

/-- Three bytes placed at consecutive addresses, the last one first. -/
def placeAt (addr : Word) (b0 b1 b2 : Byte) (s : State) : State :=
  place addr b0 (place (addr + 1) b1 (place (addr + 2) b2 s))

/-- The machine ready to run an instruction at its next step: not halted, no interrupt pending, no input waiting, PC
where bytes can be placed (RAM address 0x0200 where PC is not such a place). -/
def readyToFetch (s : State) : State :=
  let clear : State :=
    { s with cpu := { s.cpu with nmiPending := false, irqPending := false, halted := none }, inputs := [] }
  if placeable s.cpu.pc s ∧ placeable (s.cpu.pc + 1) s ∧ placeable (s.cpu.pc + 2) s then clear
  else clear.setPC 0x0200

/-- The bytes of an instruction placed where the next step fetches it. -/
def placeInstruction (b0 b1 b2 : Byte) (s : State) : State :=
  placeAt (readyToFetch s).cpu.pc b0 b1 b2 (readyToFetch s)

end Sys2Proof.Machine
end

