-- ==== Sys2Proof/Machine/Render.lean ====
section
/-! DEFINITION. The PPU's own work: position, vblank and NMI request, sprite selection, pixels, publication
(61_platform_devices.md R300 to R303, R335 to R343). -/

namespace Sys2Proof.Machine

/-- `RenderingEnabled()` (R303). -/
def Ppu.renderingEnabled (p : Ppu) : Bool := p.mask.getLsbD 3 || p.mask.getLsbD 4

/-- `AdvancePosition()` with `Publish()` (R301, R341). -/
def Ppu.advancePosition (p : Ppu) : Ppu :=
  if p.dot < 340 then { p with dot := p.dot + 1 }
  else if p.scanline < 261 then { p with dot := 0, scanline := p.scanline + 1 }
  else { p with dot := 0, scanline := 0, frame := p.frame + 1, front := p.back }

/-- `VblankStart()` (R336). -/
def Ppu.vblankStart (p : Ppu) : Ppu :=
  { p with vblank := true, nmiRequest := p.nmiRequest || p.ctrl.getLsbD 7 }

/-- `PrerenderClear()` (R337). -/
def Ppu.prerenderClear (p : Ppu) : Ppu :=
  { p with vblank := false, sprite0Hit := false, spriteOverflow := false }

/-! ### Background (R338) -/

/-- Two bits of two bit planes (R338, R342): bit `b` of `high` above bit `b` of `low`. -/
def planeBits (high low : Byte) (b : Nat) : BitVec 2 :=
  BitVec.ofBool (high.getLsbD b) ++ BitVec.ofBool (low.getLsbD b)

/-- A pixel of the background: its value (0 transparent) and its palette (R338). -/
structure BgDot where
  pix : BitVec 2
  pal : BitVec 2
  deriving DecidableEq, Repr

/-- `BgPixel(px)` (R338): the pixel, and the cartridge after the four fetches, in the rule's order. -/
def bgPixel (cfg : Params) (c : Cart) (p : Ppu) (px : Nat) : BgDot × Cart :=
  if !p.mask.getLsbD 3 || (decide (px < 8) && !p.mask.getLsbD 1) then (⟨0, 0⟩, c)
  else
    let fx   := p.x.toNat + px
    let col  := (coarseX p.v).toNat + fx / 8
    let ntx  := nametableX p.v ^^^ BitVec.ofBool (decide (32 ≤ col))
    let nty  := nametableY p.v
    let cx   : BitVec 5 := BitVec.ofNat 5 col
    let cy   := coarseY p.v
    let tile := ppuRead cfg c p ((2 : BitVec 2) ++ (nty ++ (ntx ++ (cy ++ cx))))
    let atb  := ppuRead cfg tile.2 p
      ((2 : BitVec 2) ++ (nty ++ (ntx ++ ((15 : BitVec 4) ++ (cy.extractLsb' 2 3 ++ cx.extractLsb' 2 3)))))
    let quad := (if cy.getLsbD 1 then 4 else 0) + (if cx.getLsbD 1 then 2 else 0)
    let pa   : PpuAddr := (0 : BitVec 1) ++ (BitVec.ofBool (p.ctrl.getLsbD 4) ++ (tile.1 ++ ((0 : BitVec 1) ++ fineY p.v)))
    let low  := ppuRead cfg atb.2 p pa
    let high := ppuRead cfg low.2 p (pa + 8)
    (⟨planeBits high.1 low.1 (7 - fx % 8), atb.1.extractLsb' quad 2⟩, high.2)

/-! ### Sprites (R339, R342) -/

/-- The sprite height: 16 if `ctrl[5]`, else 8 (R339, R342). -/
def Ppu.spriteHeight (p : Ppu) : Nat := if p.ctrl.getLsbD 5 then 16 else 8

/-- OAM entry `n` (R339). -/
def Ppu.oamEntry (p : Ppu) (n : Nat) : Sprite where
  index := n
  y     := Memory.read p.oam (4 * n)
  tile  := Memory.read p.oam (4 * n + 1)
  attr  := Memory.read p.oam (4 * n + 2)
  x     := Memory.read p.oam (4 * n + 3)

/-- Whether OAM entry `n` covers line `s + 1` (R339). -/
def Ppu.covers (p : Ppu) (s n : Nat) : Bool :=
  let y := (Memory.read p.oam (4 * n)).toNat
  decide (y ≤ s ∧ s - y < p.spriteHeight)

/-- The OAM entries that cover line `s + 1`, in index order. -/
def Ppu.inRange (p : Ppu) (s : Nat) : List Nat := (List.range 64).filter (p.covers s)

/-- `EvaluateSprites(s)` (R339): the first eight, and overflow exactly on a ninth. -/
def Ppu.evaluateSprites (p : Ppu) (s : Nat) : Ppu :=
  { p with
    lineSprites    := ((p.inRange s).take 8).map p.oamEntry
    spriteOverflow := p.spriteOverflow || decide (8 < (p.inRange s).length) }

/-- `row` of R342: the row of the pattern on line `s`, free where the subtraction falls below 0 (log entry 4). -/
def spriteRow (s : Nat) (y : Byte) (h : Nat) (flip : Bool) : Nat :=
  let row := s - 1 - y.toNat
  if s < y.toNat + 1 ∨ (flip ∧ h ≤ row) then Config.spriteRowBelowZero s y.toNat h flip
  else if flip then h - 1 - row else row

/-- `pa` of R342: the address of the pattern row of a sprite. -/
def spritePatternAddr (p : Ppu) (tile : Byte) (row : Nat) : PpuAddr :=
  if p.ctrl.getLsbD 5 then
    let half : Byte := if 8 ≤ row then 1 else 0
    ((BitVec.ofBool (tile.getLsbD 0)).setWidth 14 <<< 12) ||| (((tile &&& 0xFE) + half).setWidth 14 <<< 4)
      ||| BitVec.ofNat 14 (row % 8)
  else
    ((BitVec.ofBool (p.ctrl.getLsbD 3)).setWidth 14 <<< 12) ||| (tile.setWidth 14 <<< 4) ||| BitVec.ofNat 14 row

/-- What `SpritePixel` answers (R342). -/
structure SpriteDot where
  pix    : BitVec 2
  pal    : BitVec 2
  behind : Bool
  isZero : Bool
  deriving DecidableEq, Repr

/-- `(0, 0, 0, false)` (R342). -/
def SpriteDot.none : SpriteDot := ⟨0, 0, false, false⟩

/-- The pattern value of one sprite at column `px` of line `s`, and the cartridge after its two fetches; 0, and none,
where it does not reach (R342). -/
def spriteValue (cfg : Params) (c : Cart) (p : Ppu) (px s : Nat) (sp : Sprite) : BitVec 2 × Cart :=
  if sp.x.toNat ≤ px ∧ px - sp.x.toNat ≤ 7 then
    let dx   := px - sp.x.toNat
    let pa   := spritePatternAddr p sp.tile (spriteRow s sp.y p.spriteHeight (sp.attr.getLsbD 7))
    let low  := ppuRead cfg c p pa
    let high := ppuRead cfg low.2 p (pa + 8)
    (planeBits high.1 low.1 (if sp.attr.getLsbD 6 then dx else 7 - dx), high.2)
  else (0, c)

/-- The first listed sprite with an opaque pixel wins, and is the last one fetched (R342). -/
def firstOpaque (cfg : Params) (p : Ppu) (px s : Nat) : Cart → List Sprite → SpriteDot × Cart
  | c, []         => (.none, c)
  | c, sp :: rest =>
    let v := spriteValue cfg c p px s sp
    if v.1 = 0 then firstOpaque cfg p px s v.2 rest
    else (⟨v.1, sp.attr.extractLsb' 0 2, sp.attr.getLsbD 5, decide (sp.index = 0)⟩, v.2)

/-- `SpritePixel(px, s)` (R342), and the cartridge after its fetches. -/
def spritePixel (cfg : Params) (c : Cart) (p : Ppu) (px s : Nat) : SpriteDot × Cart :=
  if !p.mask.getLsbD 4 || (decide (px < 8) && !p.mask.getLsbD 2) then (.none, c)
  else firstOpaque cfg p px s c p.lineSprites

/-! ### Composition (R340, R343) -/

/-- The palette index `idx` of R340 from the background and the sprite pixel. -/
def composeIndex (bg : BgDot) (sp : SpriteDot) : BitVec 5 :=
  if bg.pix = 0 ∧ sp.pix = 0 then 0
  else if bg.pix = 0 then (1 : BitVec 1) ++ (sp.pal ++ sp.pix)
  else if sp.pix = 0 then (0 : BitVec 1) ++ (bg.pal ++ bg.pix)
  else if sp.behind then (0 : BitVec 1) ++ (bg.pal ++ bg.pix)
  else (1 : BitVec 1) ++ (sp.pal ++ sp.pix)

/-- The sprite-0 condition of R340, R343: both pixels opaque, OAM entry 0, column not 255. -/
def hitsSpriteZero (bg : BgDot) (sp : SpriteDot) (px : Nat) : Bool :=
  decide (bg.pix ≠ 0 ∧ sp.pix ≠ 0 ∧ px ≠ 255) && sp.isZero

/-- The colour index of palette index `idx`, greyscale applied (R340). -/
def Ppu.colour (p : Ppu) (idx : BitVec 5) : Byte :=
  let c := Memory.read p.pal (palIndex ((0x3F00 : PpuAddr) ||| idx.setWidth 14))
  if p.mask.getLsbD 0 then c &&& 0x30 else c

/-- The cell of `back` and `front` that holds pixel (`px`, `s`). -/
def pixelCell (px s : Nat) : Nat := 256 * s + px

/-- `RenderPixel(px, s)` (R340): the PPU, and the cartridge after the fetches of the background, then of the sprites. -/
def Ppu.renderPixel (cfg : Params) (c : Cart) (p : Ppu) (px s : Nat) : Ppu × Cart :=
  if p.renderingEnabled then
    let bg := bgPixel cfg c p px
    let sp := spritePixel cfg bg.2 p px s
    ({ p with
        sprite0Hit := p.sprite0Hit || hitsSpriteZero bg.1 sp.1 px
        back       := Memory.write p.back (pixelCell px s) ((p.colour (composeIndex bg.1 sp.1)).setWidth 6) }, sp.2)
  else ({ p with back := Memory.write p.back (pixelCell px s) ((p.colour 0).setWidth 6) }, c)

/-! ### One tick (R302), part by part -/

/-- The vblank and pre-render events at the new position. -/
def Ppu.tickFlags (cfg : Params) (p : Ppu) : Ppu :=
  if p.scanline = 241 ∧ p.dot = 1 then p.vblankStart
  else if p.scanline = 261 ∧ p.dot = cfg.prerenderClearDot then p.prerenderClear
  else p

/-- The pixel at the new position. -/
def Ppu.tickPixel (cfg : Params) (c : Cart) (p : Ppu) : Ppu × Cart :=
  if p.scanline ≤ 239 ∧ 1 ≤ p.dot ∧ p.dot ≤ 256 then p.renderPixel cfg c (p.dot - 1) p.scanline else (p, c)

/-- What `v` becomes at the new position. -/
def Ppu.scrolled (p : Ppu) : BitVec 15 :=
  if p.dot = 256 then incrementY p.v
  else if p.dot = 257 then copyX p.v p.t
  else if p.scanline = 261 ∧ 280 ≤ p.dot ∧ p.dot ≤ 304 then copyY p.v p.t
  else p.v

/-- The scroll events at the new position. -/
def Ppu.tickScroll (p : Ppu) : Ppu :=
  if p.renderingEnabled ∧ (p.scanline ≤ 239 ∨ p.scanline = 261) then { p with v := p.scrolled } else p

/-- The sprite selection at dot 257. -/
def Ppu.tickSprites (p : Ppu) : Ppu :=
  if p.dot = 257 then
    if p.scanline ≤ 239 ∧ p.renderingEnabled then p.evaluateSprites p.scanline else { p with lineSprites := [] }
  else p

/-- `PpuTick()` (R302): the position is advanced first, then the events of the new position happen, in this order; the
PPU, and the cartridge after the pixel's fetches. -/
def Ppu.tick (cfg : Params) (c : Cart) (p : Ppu) : Ppu × Cart :=
  let drawn := (p.advancePosition.tickFlags cfg).tickPixel cfg c
  (drawn.1.tickScroll.tickSprites, drawn.2)

/-- `repeat n times: PpuTick()` (R285, R380). -/
def Ppu.ticks (cfg : Params) (c : Cart) (p : Ppu) : Nat → Ppu × Cart
  | 0     => (p, c)
  | n + 1 => Ppu.ticks cfg (p.tick cfg c).2 (p.tick cfg c).1 n

end Sys2Proof.Machine
end

