-- ==== Sys2Proof/Machine/System.lean ====
section
/-! DEFINITION. The CPU step (60_exceptions.md R250), the system step (R285), reset (70_reset_and_hazards.md R380) and
the host (R290 to R292). -/

namespace Sys2Proof.Machine

/-! ### The CPU step -/

/-- The halted state of an illegal opcode (R252): PC at the opcode byte, `halted` set, no cycle charged. -/
def halt (addr : Word) (opcode : Byte) (s : State) : State :=
  { s with cpu := { s.cpu with pc := addr, halted := some ⟨addr, opcode⟩ } }

/-- Fetch, decode and execute (R250, R252). -/
def runInstruction (s : State) : Result :=
  match fetch s with
  | .instr i t        => exec i t
  | .illegal opcode t => .fault (.illegalOpcode s.cpu.pc opcode (halt s.cpu.pc opcode t))

/-- `CpuStep()` at a boundary (R250, R264 to R268): NMI, else unmasked IRQ, else the instruction at PC. -/
def cpuStep (s : State) : Result :=
  match s.cpu.halted with
  | some r => .fault (.halted r.addr r.opcode)
  | none =>
    if s.cpu.nmiPending then .next (interruptEntry nmiVector (s.setNmiPending false))
    else if s.cpu.irqPending ∧ ¬ s.flag .i then .next (interruptEntry irqVector (s.setIrqPending false))
    else runInstruction s

/-! ### The system step -/

/-- The boundary inputs (R285): buttons, then the release, then the level of the IRQ line. -/
def applyEnv (env : EnvInput) (s : State) : State :=
  let b : State := { s with pad1 := s.pad1.setButtons env.buttons1, pad2 := s.pad2.setButtons env.buttons2 }
  let r := if env.irqRelease then releaseIrq b else b
  if env.irqLevel then requestIrq r else r

/-- `if ppu.nmi_request: ppu.nmi_request <- 0; request_nmi()` (R261, R285). -/
def moveNmi (s : State) : State :=
  if s.ppu.nmiRequest then requestNmi { s with ppu := { s.ppu with nmiRequest := false } } else s

/-- The PPU catches up by three dots for each of `n` CPU cycles, then its NMI request is moved (R285). -/
def catchUp (n : Nat) (s : State) : State :=
  let r := s.ppu.ticks s.params s.cart (3 * n)
  moveNmi { s with ppu := r.1, cart := r.2 }

/-- What follows the CPU step: the cycles it consumed are those it added to `cycles` (R250, R285). -/
def afterCpuStep (before : Nat) : Result → Result
  | .next t    => .next (catchUp (t.cpu.cycles - before) t)
  | .fault f   => .fault f
  | .refused r => .refused r

/-- `SystemStep(env)` (R285); a halted machine has no step, and takes no input. -/
def systemStep (env : EnvInput) (s : State) : Result :=
  match s.cpu.halted with
  | some r => .fault (.halted r.addr r.opcode)
  | none   => afterCpuStep s.cpu.cycles (cpuStep (applyEnv env s))

/-- The inputs of a boundary at which the host does nothing: buttons as they are, the IRQ line low (log entry 3). -/
def quietEnv (s : State) : EnvInput := ⟨s.pad1.buttons, s.pad2.buttons, false, false⟩

/-! ### Reset -/

/-- Volatile bus, PPU and controller state cleared (R380 part 1); the cartridge's RAM and the buttons are kept. -/
def clearVolatile (s : State) : State :=
  { s with
    ram  := []
    ppu  := Ppu.clearedAt 0
    pad1 := s.pad1.reset
    pad2 := s.pad2.reset
    cart := s.cart.afterReset }

/-- The CPU registers from the reset vector, and the 7 cycles (R380 parts 2 and 3). -/
def resetCpu (s : State) : State :=
  let target := memRead16 resetVector s
  { target.2 with cpu := Cpu.afterReset s.params target.1 }

/-- `reset()` (R380 to R382): the 21 dots of the 7 cycles are run. -/
def hostReset (s : State) : State :=
  let r := resetCpu (clearVolatile s)
  let d := r.ppu.ticks r.params r.cart 21
  { r with ppu := d.1, cart := d.2 }

/-! ### The host -/

/-- One step of the machine as the host drives it: the oldest input is taken. A reset is a host operation between
system steps and the only way out of the halted state (R382, R290). -/
def hostStep (s : State) : Result :=
  match s.inputs with
  | []                     => systemStep (quietEnv s) s
  | .boundary env :: later => systemStep env { s with inputs := later }
  | .reset :: later        => .next (hostReset { s with inputs := later })

/-- `set_buttons(port, mask)` (R290, R350); `second` selects port 2. -/
def setButtons (second : Bool) (mask : Byte) (s : State) : State :=
  if second then { s with pad2 := s.pad2.setButtons mask } else { s with pad1 := s.pad1.setButtons mask }

/-- A no-bank-switching cartridge with the sizes of R360, its memories canonical and in range. -/
abbrev PlainCart.wellFormed (c : PlainCart) : Prop :=
  (c.prgLen = 16384 ∨ c.prgLen = 32768) ∧ c.chrLen = 8192 ∧
  Memory.wf c.prgRom ∧ Memory.below c.prgLen c.prgRom ∧ Memory.wf c.chr ∧ Memory.below c.chrLen c.chr ∧
  Memory.wf (c.prgRam.getD []) ∧ Memory.below 8192 (c.prgRam.getD [])

/-- A no-bank-switching cartridge the loader may hand over (R360): well formed, its CHR RAM zero (R364, R381). A launch
premise (R293). -/
abbrev PlainCart.launchable (c : PlainCart) : Prop := c.wellFormed ∧ (c.chrIsRam = true → c.chr = [])

/-- The launch state of a cartridge with the parameters `cfg` (R8, R290 construct; R381: power-on is the reset procedure,
with CHR RAM zero). -/
def launch (cfg : Params) (c : Cart) : State := hostReset { State.reset with cart := c.atPowerOn, params := cfg }

/-- The completed picture the host may take (R290, R291, R341). -/
def completedFrame (s : State) : Picture := s.ppu.front

/-- A debug snapshot (R292): registers, position and memories, read without any side effect. -/
structure Snapshot where
  cpu      : Cpu
  scanline : Nat
  dot      : Nat
  ram      : Memory
  oam      : Memory
  pal      : Memory
  deriving DecidableEq, Repr

/-- The snapshot of a state (R82, R292). -/
def snapshot (s : State) : Snapshot := ⟨s.cpu, s.ppu.scanline, s.ppu.dot, s.ram, s.ppu.oam, s.ppu.pal⟩

end Sys2Proof.Machine
end

