-- ==== Sys2Proof/Machine/Step.lean ====
section
/-! DEFINITION. The step of the machine, and a state whose next step runs a given opcode-table word. -/

namespace Sys2Proof.Machine

/-- One step: one host input and one system step (60_exceptions.md R285, R290). -/
def step (s : State) : Host.Outcome State Fault Refusal := hostStep s

/-- `s` with the bytes of an opcode-table word placed where the next step fetches (log entry 5). -/
def State.withFetchWord (s : State) (nbits w : Nat) : State :=
  placeInstruction (tableByte nbits w 0) (tableByte nbits w 1) (tableByte nbits w 2) s

end Sys2Proof.Machine
end

