-- ==== Sys2Proof/Safety.lean ====
section
/-! DEFINITION. What a sound state is, and the words the statements are written in. The formulas here are written from
the spec's rules over numbers and bits, apart from the machine's own definitions. -/

namespace Sys2Proof.Machine

/-! ### Invariants of the machine -/

/-- The memories of a no-bank-switching cartridge are in canonical form and inside their sizes (R360). -/
structure PlainCart.MemoriesSound (c : PlainCart) : Prop where
  rom_wf    : Memory.wf c.prgRom
  rom_size  : Memory.below c.prgLen c.prgRom
  chr_some  : 8192 ≤ c.chrLen
  chr_wf    : Memory.wf c.chr
  chr_size  : Memory.below c.chrLen c.chr
  prgRam_wf : ∀ m, c.prgRam = some m → Memory.wf m ∧ Memory.below 8192 m

/-- Every memory is in canonical form, inside its size, and a palette entry keeps 6 bits (R46, R47, R360). -/
structure State.MemoriesSound (s : State) : Prop where
  ram_wf     : Memory.wf s.ram
  ram_size   : Memory.below 0x800 s.ram
  nt_wf      : Memory.wf s.ppu.nt
  nt_size    : Memory.below 0x1000 s.ppu.nt
  pal_wf     : Memory.wf s.ppu.pal
  pal_size   : Memory.below 32 s.ppu.pal
  pal_six    : ∀ c ∈ s.ppu.pal, c.2.toNat < 64
  oam_wf     : Memory.wf s.ppu.oam
  oam_size   : Memory.below 256 s.ppu.oam
  back_wf    : Memory.wf s.ppu.back
  back_size  : Memory.below 61440 s.ppu.back
  front_wf   : Memory.wf s.ppu.front
  front_size : Memory.below 61440 s.ppu.front
  cart_sound : ∀ c, s.cart = .plain c → c.MemoriesSound

/-- The PPU's counters and lists are in their ranges (R47, R300, R339), and so are the controllers' (R48). -/
structure State.RangesSound (s : State) : Prop where
  scanline : s.ppu.scanline ≤ 261
  dot      : s.ppu.dot ≤ 340
  sprites  : s.ppu.lineSprites.length ≤ 8
  indices  : ∀ sp ∈ s.ppu.lineSprites, sp.index < 64
  pad1     : s.pad1.index ≤ 8
  pad2     : s.pad2.index ≤ 8

/-- The stored status bits 5 and 4 of a status byte (R31). -/
def StoredBits (p : Byte) : Prop := p.getLsbD 5 = true ∧ p.getLsbD 4 = false

/-- R31: "in every reachable state P[5] = 1 and P[4] = 0"; a reset writes `RESET_P` into P, so the parameter must have
the bits, as its default 0x24 has (log entry 8). -/
def State.StatusSound (s : State) : Prop := StoredBits s.cpu.p ∧ StoredBits s.params.resetP

/-- The lockstep equation (R286). -/
def State.Lockstep (s : State) : Prop :=
  s.ppu.scanline * 341 + s.ppu.dot + 89342 * s.ppu.frame = 3 * s.cpu.cycles

/-- No NMI request waits in the PPU at a boundary: the orchestrator has moved it (R261, R285). -/
def State.RequestMoved (s : State) : Prop := s.ppu.nmiRequest = false

/-- The step answers a next state. -/
def StepsTo (s t : State) : Prop := step s = .next t

/-! ### Words for statements -/

/-- `p'` is `p` with the listed bits at the listed values: every bit not listed is as before. -/
def BitsChanged {n : Nat} (p p' : BitVec n) (changes : List (Nat × Bool)) : Prop :=
  (∀ c ∈ changes, p'.getLsbD c.1 = c.2) ∧ ∀ k, (∀ c ∈ changes, c.1 ≠ k) → p'.getLsbD k = p.getLsbD k

/-- The `k` bits of `v` from bit `from0`, put at bit `at0`: a list for `BitsChanged`. -/
def fieldBits {n : Nat} (at0 k : Nat) (v : BitVec n) (from0 : Nat) : List (Nat × Bool) :=
  (List.range k).map fun j => (at0 + j, v.getLsbD (from0 + j))

/-- The carry bit of a status byte as a number. -/
def carryNat (p : Byte) : Nat := p.toNat % 2

/-- A bit as a number. -/
def bitNat (b : Bool) : Nat := if b then 1 else 0

/-- The bits Z and N of a result byte, by position (R26, R27). -/
def zeroNegative (v : Byte) : List (Nat × Bool) := [(1, decide (v.toNat = 0)), (7, decide (128 ≤ v.toNat))]

/-- A signed result that a byte cannot hold (R170, R171). -/
def outOfSignedRange (v : Int) : Bool := decide (v < -128 ∨ 127 < v)

/-- The cycles of a read instruction: base, and one more where the mode crossed a page (R131). -/
def readCycles (base : Nat) (crossed : Bool) : Nat := base + if crossed then 1 else 0


/-- Two addresses that a store to the one may be seen at through the other: the same address, or the same RAM byte
through a mirror (R68). -/
def sameByte (a b : Word) : Prop := a = b ∨ (a.toNat < 0x2000 ∧ b.toNat < 0x2000 ∧ a.toNat % 0x800 = b.toNat % 0x800)

/-- The cartridge is the one variant the spec defines (R360 to R365). -/
def State.plainCart (s : State) : Prop := s.cart.mapper = .noBankSwitching

/-- An address behind which there is a plain byte of memory: RAM, or the no-bank-switching cartridge (R65, R80). -/
def plainMemory (a : Word) (s : State) : Prop := a.toNat < 0x2000 ∨ (0x4020 ≤ a.toNat ∧ s.plainCart)

/-- What an operand read may change besides nothing (R80, R327, R353): the PPU's `vblank`, `w`, `v`, `readBuffer`, a
controller's read index, and of a cartridge with another mapper all but its ROM and bank state (R84; nothing of the
no-bank-switching one). -/
def OnlyReadEffects (s t : State) : Prop :=
  t = { s with
    ppu  := { s.ppu with vblank := t.ppu.vblank, w := t.ppu.w, v := t.ppu.v, readBuffer := t.ppu.readBuffer }
    pad1 := { s.pad1 with index := t.pad1.index }
    pad2 := { s.pad2 with index := t.pad2.index }
    cart := s.cart.withOwn t.cart.own }

/-- `m'` is the canonical memory that is `m` with the listed cells written, and no other. -/
def CellsStored {w : Nat} (m m' : List (Nat × BitVec w)) (stores : List (Nat × BitVec w)) : Prop :=
  Memory.wf m' ∧ (∀ c ∈ stores, Memory.read m' c.1 = c.2) ∧
  ∀ k, (∀ c ∈ stores, c.1 ≠ k) → Memory.read m' k = Memory.read m k

/-- The RAM byte a stack pointer names (R22): offset 0x100 + SP. -/
def stackCell (sp : Byte) : Nat := 0x100 + sp.toNat

/-- The byte of the stack a stack pointer names. -/
def stackByte (sp : Byte) (s : State) : Byte := Memory.read s.ram (stackCell sp)

/-- The bytes at `n` consecutive addresses (R100: modulo 65,536). -/
def bytesAt (a : Word) (n : Nat) (s : State) : List Byte := (List.range n).map fun k => peek (a + BitVec.ofNat 16 k) s

/-- One fetch after another from PC, in ascending order, each with its read side effect (R90, R102): `bytes` are the
bytes read, `u` the state after them. -/
def Fetches (s : State) (bytes : List Byte) (u : State) : Prop :=
  match bytes with
  | []      => u = s
  | b :: bs => (memRead s.cpu.pc s).1 = b ∧ Fetches ((memRead s.cpu.pc s).2.setPC (s.cpu.pc + 1)) bs u

/-- `b` is what the CPU step of `s` starts from: `s` itself where no host input waits, else `s` with the inputs of the
oldest boundary applied (R285, R290). -/
def AtBoundary (s b : State) : Prop :=
  (s.inputs = [] ∧ b = s) ∨
  ∃ env later, s.inputs = .boundary env :: later ∧ b = applyEnv env { s with inputs := later }

/-- The CPU step at `b` runs an instruction: not halted, and no interrupt is serviceable (R250, R264 to R268). -/
def RunsInstruction (b : State) : Prop :=
  b.cpu.halted = none ∧ b.cpu.nmiPending = false ∧ (b.cpu.irqPending = false ∨ b.cpu.p.getLsbD 2 = true)

/-- The operand a read-modify-write form works on, and the state after it is read. -/
def placeOperand (pl : Place) (s : State) : Byte × State :=
  match pl with
  | .acc   => (s.cpu.a, s)
  | .mem m => memRead (effAddr m s).addr (effAddr m s).state

/-- `StoreResult` (R103): the result in A, or written to the effective address of the mode in `s`; `u` is the state
after the operand was read. -/
def placeStored (pl : Place) (r : Byte) (s u : State) : State :=
  match pl with
  | .acc   => { u with cpu := { u.cpu with a := r } }
  | .mem m => memWrite (effAddr m s).addr r u

/-- The eight PPU registers in the order of their index (R35, R69). -/
def ppuRegisters : List PpuReg :=
  [.ppuctrl, .ppumask, .ppustatus, .oamaddr, .oamdata, .ppuscroll, .ppuaddr, .ppudata]

/-- The bus addresses of PPU register `i`: 0x2000 + 8k + i (R69). -/
def isPpuAddress (i : Nat) (a : Word) : Prop := 0x2000 ≤ a.toNat ∧ a.toNat < 0x4000 ∧ a.toNat % 8 = i

/-- The unmapped I/O addresses (R70), but for 0x4014 and 0x4017. -/
def isUnmapped (a : Word) : Prop :=
  (0x4000 ≤ a.toNat ∧ a.toNat ≤ 0x4013) ∨ a.toNat = 0x4015 ∨ (0x4018 ≤ a.toNat ∧ a.toNat ≤ 0x401F)

/-! ### The forms of each instruction, from the "Encodings" line of its rule -/

/-- The operand bytes of a mode, low byte first (R101). -/
def modeBytes : MemMode → List Byte
  | .zp d    => [d]
  | .zpx d   => [d]
  | .zpy d   => [d]
  | .abs d16 => [lo d16, hi d16]
  | .abx d16 => [lo d16, hi d16]
  | .aby d16 => [lo d16, hi d16]
  | .izx d   => [d]
  | .izy d   => [d]

/-- A read instruction's form: the constructor, its opcode byte, where its operand comes from, its base cycles. -/
structure ReadForm where
  instr  : Instr
  opcode : Byte
  source : Source
  base   : Nat

/-- The bytes of a read instruction's form. -/
def ReadForm.bytes (f : ReadForm) : List Byte :=
  match f.source with
  | .imm d => [f.opcode, d]
  | .mem m => f.opcode :: modeBytes m

/-- A store's form. -/
structure StoreForm where
  instr  : Instr
  opcode : Byte
  mode   : MemMode
  base   : Nat

/-- The bytes of a store's form. -/
def StoreForm.bytes (f : StoreForm) : List Byte := f.opcode :: modeBytes f.mode

/-- A read-modify-write instruction's form. -/
structure ModifyForm where
  instr  : Instr
  opcode : Byte
  place  : Place
  base   : Nat

/-- The bytes of a read-modify-write instruction's form. -/
def ModifyForm.bytes (f : ModifyForm) : List Byte :=
  match f.place with
  | .acc   => [f.opcode]
  | .mem m => f.opcode :: modeBytes m

namespace Forms

/-- LDA (R140). -/
def lda (d : Byte) (d16 : Word) : List ReadForm :=
  [⟨.ldaImm d, 0xA9, .imm d, 2⟩, ⟨.ldaZp d, 0xA5, .mem (.zp d), 3⟩,
   ⟨.ldaZpx d, 0xB5, .mem (.zpx d), 4⟩, ⟨.ldaAbs d16, 0xAD, .mem (.abs d16), 4⟩,
   ⟨.ldaAbx d16, 0xBD, .mem (.abx d16), 4⟩, ⟨.ldaAby d16, 0xB9, .mem (.aby d16), 4⟩,
   ⟨.ldaIzx d, 0xA1, .mem (.izx d), 6⟩, ⟨.ldaIzy d, 0xB1, .mem (.izy d), 5⟩]

/-- LDX (R141). -/
def ldx (d : Byte) (d16 : Word) : List ReadForm :=
  [⟨.ldxImm d, 0xA2, .imm d, 2⟩, ⟨.ldxZp d, 0xA6, .mem (.zp d), 3⟩,
   ⟨.ldxZpy d, 0xB6, .mem (.zpy d), 4⟩, ⟨.ldxAbs d16, 0xAE, .mem (.abs d16), 4⟩,
   ⟨.ldxAby d16, 0xBE, .mem (.aby d16), 4⟩]

/-- LDY (R142). -/
def ldy (d : Byte) (d16 : Word) : List ReadForm :=
  [⟨.ldyImm d, 0xA0, .imm d, 2⟩, ⟨.ldyZp d, 0xA4, .mem (.zp d), 3⟩,
   ⟨.ldyZpx d, 0xB4, .mem (.zpx d), 4⟩, ⟨.ldyAbs d16, 0xAC, .mem (.abs d16), 4⟩,
   ⟨.ldyAbx d16, 0xBC, .mem (.abx d16), 4⟩]

/-- ADC (R171). -/
def adc (d : Byte) (d16 : Word) : List ReadForm :=
  [⟨.adcImm d, 0x69, .imm d, 2⟩, ⟨.adcZp d, 0x65, .mem (.zp d), 3⟩,
   ⟨.adcZpx d, 0x75, .mem (.zpx d), 4⟩, ⟨.adcAbs d16, 0x6D, .mem (.abs d16), 4⟩,
   ⟨.adcAbx d16, 0x7D, .mem (.abx d16), 4⟩, ⟨.adcAby d16, 0x79, .mem (.aby d16), 4⟩,
   ⟨.adcIzx d, 0x61, .mem (.izx d), 6⟩, ⟨.adcIzy d, 0x71, .mem (.izy d), 5⟩]

/-- SBC (R172). -/
def sbc (d : Byte) (d16 : Word) : List ReadForm :=
  [⟨.sbcImm d, 0xE9, .imm d, 2⟩, ⟨.sbcZp d, 0xE5, .mem (.zp d), 3⟩,
   ⟨.sbcZpx d, 0xF5, .mem (.zpx d), 4⟩, ⟨.sbcAbs d16, 0xED, .mem (.abs d16), 4⟩,
   ⟨.sbcAbx d16, 0xFD, .mem (.abx d16), 4⟩, ⟨.sbcAby d16, 0xF9, .mem (.aby d16), 4⟩,
   ⟨.sbcIzx d, 0xE1, .mem (.izx d), 6⟩, ⟨.sbcIzy d, 0xF1, .mem (.izy d), 5⟩]

/-- AND (R190). -/
def and (d : Byte) (d16 : Word) : List ReadForm :=
  [⟨.andImm d, 0x29, .imm d, 2⟩, ⟨.andZp d, 0x25, .mem (.zp d), 3⟩,
   ⟨.andZpx d, 0x35, .mem (.zpx d), 4⟩, ⟨.andAbs d16, 0x2D, .mem (.abs d16), 4⟩,
   ⟨.andAbx d16, 0x3D, .mem (.abx d16), 4⟩, ⟨.andAby d16, 0x39, .mem (.aby d16), 4⟩,
   ⟨.andIzx d, 0x21, .mem (.izx d), 6⟩, ⟨.andIzy d, 0x31, .mem (.izy d), 5⟩]

/-- ORA (R191). -/
def ora (d : Byte) (d16 : Word) : List ReadForm :=
  [⟨.oraImm d, 0x09, .imm d, 2⟩, ⟨.oraZp d, 0x05, .mem (.zp d), 3⟩,
   ⟨.oraZpx d, 0x15, .mem (.zpx d), 4⟩, ⟨.oraAbs d16, 0x0D, .mem (.abs d16), 4⟩,
   ⟨.oraAbx d16, 0x1D, .mem (.abx d16), 4⟩, ⟨.oraAby d16, 0x19, .mem (.aby d16), 4⟩,
   ⟨.oraIzx d, 0x01, .mem (.izx d), 6⟩, ⟨.oraIzy d, 0x11, .mem (.izy d), 5⟩]

/-- EOR (R192). -/
def eor (d : Byte) (d16 : Word) : List ReadForm :=
  [⟨.eorImm d, 0x49, .imm d, 2⟩, ⟨.eorZp d, 0x45, .mem (.zp d), 3⟩,
   ⟨.eorZpx d, 0x55, .mem (.zpx d), 4⟩, ⟨.eorAbs d16, 0x4D, .mem (.abs d16), 4⟩,
   ⟨.eorAbx d16, 0x5D, .mem (.abx d16), 4⟩, ⟨.eorAby d16, 0x59, .mem (.aby d16), 4⟩,
   ⟨.eorIzx d, 0x41, .mem (.izx d), 6⟩, ⟨.eorIzy d, 0x51, .mem (.izy d), 5⟩]

/-- CMP (R173). -/
def cmp (d : Byte) (d16 : Word) : List ReadForm :=
  [⟨.cmpImm d, 0xC9, .imm d, 2⟩, ⟨.cmpZp d, 0xC5, .mem (.zp d), 3⟩,
   ⟨.cmpZpx d, 0xD5, .mem (.zpx d), 4⟩, ⟨.cmpAbs d16, 0xCD, .mem (.abs d16), 4⟩,
   ⟨.cmpAbx d16, 0xDD, .mem (.abx d16), 4⟩, ⟨.cmpAby d16, 0xD9, .mem (.aby d16), 4⟩,
   ⟨.cmpIzx d, 0xC1, .mem (.izx d), 6⟩, ⟨.cmpIzy d, 0xD1, .mem (.izy d), 5⟩]

/-- CPX (R174). -/
def cpx (d : Byte) (d16 : Word) : List ReadForm :=
  [⟨.cpxImm d, 0xE0, .imm d, 2⟩, ⟨.cpxZp d, 0xE4, .mem (.zp d), 3⟩,
   ⟨.cpxAbs d16, 0xEC, .mem (.abs d16), 4⟩]

/-- CPY (R175). -/
def cpy (d : Byte) (d16 : Word) : List ReadForm :=
  [⟨.cpyImm d, 0xC0, .imm d, 2⟩, ⟨.cpyZp d, 0xC4, .mem (.zp d), 3⟩,
   ⟨.cpyAbs d16, 0xCC, .mem (.abs d16), 4⟩]

/-- BIT (R193). -/
def bit (d : Byte) (d16 : Word) : List ReadForm :=
  [⟨.bitZp d, 0x24, .mem (.zp d), 3⟩, ⟨.bitAbs d16, 0x2C, .mem (.abs d16), 4⟩]

/-- STA (R143). -/
def sta (d : Byte) (d16 : Word) : List StoreForm :=
  [⟨.staZp d, 0x85, .zp d, 3⟩, ⟨.staZpx d, 0x95, .zpx d, 4⟩,
   ⟨.staAbs d16, 0x8D, .abs d16, 4⟩, ⟨.staAbx d16, 0x9D, .abx d16, 5⟩,
   ⟨.staAby d16, 0x99, .aby d16, 5⟩, ⟨.staIzx d, 0x81, .izx d, 6⟩,
   ⟨.staIzy d, 0x91, .izy d, 6⟩]

/-- STX (R144). -/
def stx (d : Byte) (d16 : Word) : List StoreForm :=
  [⟨.stxZp d, 0x86, .zp d, 3⟩, ⟨.stxZpy d, 0x96, .zpy d, 4⟩,
   ⟨.stxAbs d16, 0x8E, .abs d16, 4⟩]

/-- STY (R145). -/
def sty (d : Byte) (d16 : Word) : List StoreForm :=
  [⟨.styZp d, 0x84, .zp d, 3⟩, ⟨.styZpx d, 0x94, .zpx d, 4⟩,
   ⟨.styAbs d16, 0x8C, .abs d16, 4⟩]

/-- INC (R176). -/
def inc (d : Byte) (d16 : Word) : List ModifyForm :=
  [⟨.incZp d, 0xE6, .mem (.zp d), 5⟩, ⟨.incZpx d, 0xF6, .mem (.zpx d), 6⟩,
   ⟨.incAbs d16, 0xEE, .mem (.abs d16), 6⟩, ⟨.incAbx d16, 0xFE, .mem (.abx d16), 7⟩]

/-- DEC (R179). -/
def dec (d : Byte) (d16 : Word) : List ModifyForm :=
  [⟨.decZp d, 0xC6, .mem (.zp d), 5⟩, ⟨.decZpx d, 0xD6, .mem (.zpx d), 6⟩,
   ⟨.decAbs d16, 0xCE, .mem (.abs d16), 6⟩, ⟨.decAbx d16, 0xDE, .mem (.abx d16), 7⟩]

/-- ASL (R194). -/
def asl (d : Byte) (d16 : Word) : List ModifyForm :=
  [⟨.aslAcc, 0x0A, .acc, 2⟩, ⟨.aslZp d, 0x06, .mem (.zp d), 5⟩,
   ⟨.aslZpx d, 0x16, .mem (.zpx d), 6⟩, ⟨.aslAbs d16, 0x0E, .mem (.abs d16), 6⟩,
   ⟨.aslAbx d16, 0x1E, .mem (.abx d16), 7⟩]

/-- LSR (R195). -/
def lsr (d : Byte) (d16 : Word) : List ModifyForm :=
  [⟨.lsrAcc, 0x4A, .acc, 2⟩, ⟨.lsrZp d, 0x46, .mem (.zp d), 5⟩,
   ⟨.lsrZpx d, 0x56, .mem (.zpx d), 6⟩, ⟨.lsrAbs d16, 0x4E, .mem (.abs d16), 6⟩,
   ⟨.lsrAbx d16, 0x5E, .mem (.abx d16), 7⟩]

/-- ROL (R196). -/
def rol (d : Byte) (d16 : Word) : List ModifyForm :=
  [⟨.rolAcc, 0x2A, .acc, 2⟩, ⟨.rolZp d, 0x26, .mem (.zp d), 5⟩,
   ⟨.rolZpx d, 0x36, .mem (.zpx d), 6⟩, ⟨.rolAbs d16, 0x2E, .mem (.abs d16), 6⟩,
   ⟨.rolAbx d16, 0x3E, .mem (.abx d16), 7⟩]

/-- ROR (R197). -/
def ror (d : Byte) (d16 : Word) : List ModifyForm :=
  [⟨.rorAcc, 0x6A, .acc, 2⟩, ⟨.rorZp d, 0x66, .mem (.zp d), 5⟩,
   ⟨.rorZpx d, 0x76, .mem (.zpx d), 6⟩, ⟨.rorAbs d16, 0x6E, .mem (.abs d16), 6⟩,
   ⟨.rorAbx d16, 0x7E, .mem (.abx d16), 7⟩]

end Forms

end Sys2Proof.Machine
end

