-- ==== Sys2Proof/Certificates/Slice0/Obligations.lean ====
section
/-! DEFINITION. The statements for the provers: each says what a rule of the spec says the machine does. The formulas
are over numbers, bits and single memory bytes; where a rule is a formula over bits it is written as the rule writes
it. -/

open Sys2Proof Sys2Proof.Machine

/-! ## Encoding, fetch, step -/

/-- Decode and encode agree on every byte sequence and every instruction (R100, R101, R121, R136): a decoder that drops
or confuses an operand bit, or maps two bytes to one instruction, fails one direction. -/
def Obligations.DecodeInvertsEncode : Prop :=
  ∀ (bs rest : List Byte) (i : Instr), decode bs = .ok (i, rest) ↔ bs = encode i ++ rest

/-- R128: the 105 bytes, as the rule lists them, are exactly those the decoder refuses as illegal, and fetching one of
them is the fault `IllegalOpcode`; every other byte sequence of the right length is one instruction (R100, R129). -/
def Obligations.IllegalOpcodesAreTheListed105 : Prop :=
  illegalOpcodes =
    [0x02, 0x03, 0x04, 0x07, 0x0B, 0x0C, 0x0F, 0x12, 0x13, 0x14, 0x17, 0x1A, 0x1B, 0x1C, 0x1F, 0x22, 0x23, 0x27, 0x2B,
     0x2F, 0x32, 0x33, 0x34, 0x37, 0x3A, 0x3B, 0x3C, 0x3F, 0x42, 0x43, 0x44, 0x47, 0x4B, 0x4F, 0x52, 0x53, 0x54, 0x57,
     0x5A, 0x5B, 0x5C, 0x5F, 0x62, 0x63, 0x64, 0x67, 0x6B, 0x6F, 0x72, 0x73, 0x74, 0x77, 0x7A, 0x7B, 0x7C, 0x7F] ++
    [0x80, 0x82, 0x83, 0x87, 0x89, 0x8B, 0x8F, 0x92, 0x93, 0x97, 0x9B, 0x9C, 0x9E, 0x9F, 0xA3, 0xA7, 0xAB, 0xAF, 0xB2,
     0xB3, 0xB7, 0xBB, 0xBF, 0xC2, 0xC3, 0xC7, 0xCB, 0xCF, 0xD2, 0xD3, 0xD4, 0xD7, 0xDA, 0xDB, 0xDC, 0xDF, 0xE2, 0xE3,
     0xE7, 0xEB, 0xEF, 0xF2, 0xF3, 0xF4, 0xF7, 0xFA, 0xFB, 0xFC, 0xFF] ∧
  illegalOpcodes.length = 105 ∧
  ∀ (op : Byte) (rest : List Byte) (s : State),
    (wellFormedBytes (op :: rest) = true ↔ ∃ i, decode (op :: rest) = .ok (i, [])) ∧
    (decode (op :: rest) = .error (.illegalOpcode op) ↔ op.toNat ∈ illegalOpcodes) ∧
    (peek s.cpu.pc s = op →
      ((∃ stuck, runInstruction s = .fault (.illegalOpcode s.cpu.pc op stuck)) ↔ op.toNat ∈ illegalOpcodes))

/-- Words written out from the spec's encodings, one of each family and format. -/
def Obligations.SpecEncodingsDecode : Prop :=
  decode [0xA9, 0x80] = .ok (.ldaImm 0x80, []) ∧
  decode [0xAD, 0x34, 0x12] = .ok (.ldaAbs 0x1234, []) ∧
  decode [0xB6, 0xFF] = .ok (.ldxZpy 0xFF, []) ∧
  decode [0x91, 0x10] = .ok (.staIzy 0x10, []) ∧
  decode [0x08] = .ok (.php, []) ∧
  decode [0x71, 0x44] = .ok (.adcIzy 0x44, []) ∧
  decode [0xFE, 0x00, 0x03] = .ok (.incAbx 0x0300, []) ∧
  decode [0x2C, 0x02, 0x20] = .ok (.bitAbs 0x2002, []) ∧
  decode [0x6A] = .ok (.rorAcc, []) ∧
  decode [0x6C, 0xFF, 0x02] = .ok (.jmpInd 0x02FF, []) ∧
  decode [0x20, 0x10, 0x80] = .ok (.jsr 0x8010, []) ∧
  decode [0xD0, 0xFB] = .ok (.bne 0xFB, []) ∧
  decode [0x00, 0xEA] = .ok (.brk, [0xEA]) ∧
  decode [0x40] = .ok (.rti, []) ∧
  decode [0xF8] = .ok (.sed, []) ∧
  decode [0x89, 0x00] = .error (.illegalOpcode 0x89) ∧
  decode [0xAD, 0x34] = .error (.truncated 0xAD)

/-- R102: the opcode byte and then the operand bytes are read with the data read, in ascending order, each with its own
side effect; PC ends after them, or, on an illegal opcode, at the opcode byte, with the fault raised. -/
def Obligations.FetchReadsOpcodeThenOperands : Prop :=
  ∀ s : State,
    (∀ i u, fetch s = .instr i u ↔ Fetches s (encode i) u) ∧
    (∀ i u, fetch s = .instr i u → u.cpu.pc = s.cpu.pc + BitVec.ofNat 16 i.length) ∧
    (∀ op u, fetch s = .illegal op u ↔ op.toNat ∈ illegalOpcodes ∧ memRead s.cpu.pc s = (op, u)) ∧
    (∀ op u, fetch s = .illegal op u →
      u.cpu.pc = s.cpu.pc ∧
      ∃ stuck, runInstruction s = .fault (.illegalOpcode s.cpu.pc op stuck) ∧ stuck.cpu.pc = s.cpu.pc)

/-- A step runs the decoded instruction (R250, R285): where the bytes at PC are plain memory, `exec` of the instruction
they decode to, at the state with PC after it; in general, after the fetch with its side effects; then the PPU catches up
(`catchUp`). The model's choice in it: with no host input waiting the boundary is quiet and the CPU step starts from `s`
itself (log entry 3). -/
def Obligations.StepRunsTheDecodedInstruction : Prop :=
  ∀ s b : State, AtBoundary s b → RunsInstruction b →
    (∀ i, (∀ k < i.length, plainMemory (b.cpu.pc + BitVec.ofNat 16 k) b) →
      decode (bytesAt b.cpu.pc i.length b) = .ok (i, []) →
      step s = afterCpuStep s.cpu.cycles (exec i (b.setPC (b.cpu.pc + BitVec.ofNat 16 i.length)))) ∧
    (∀ i u t, Fetches b (encode i) u → exec i u = .next t →
      step s = .next (catchUp (t.cpu.cycles - s.cpu.cycles) t))

/-- R252: an illegal opcode at a boundary with no serviceable interrupt is reported with its address and byte; PC is at
the opcode, `halted` is set, nothing else differs from the boundary but the side effect of the one opcode read; no cycle
is charged and no dot is run; from then on there is no CPU step and no system step until reset. The model's choices in
it: the fault carries the stuck state (log entry 6); the quiet boundary, and a reset as a step of its own (log entry 3); a
read of another mapper's cartridge may change all of it but its ROM and bank state (`Cart.own`; R84, log entry 2). -/
def Obligations.IllegalOpcodeHaltsUntilReset : Prop :=
  ∀ (s b : State) (op : Byte), AtBoundary s b → RunsInstruction b → peek b.cpu.pc b = op → op.toNat ∈ illegalOpcodes →
    ∃ t, step s = .fault (.illegalOpcode b.cpu.pc op t) ∧
      t = { (memRead b.cpu.pc b).2 with cpu := { b.cpu with halted := some ⟨b.cpu.pc, op⟩ } } ∧
      OnlyReadEffects b (memRead b.cpu.pc b).2 ∧
      cpuStep t = .fault (.halted b.cpu.pc op) ∧
      (∀ env, systemStep env t = .fault (.halted b.cpu.pc op)) ∧
      (∀ later, ∃ u, step { t with inputs := .reset :: later } = .next u ∧ u.cpu.halted = none)

/-! ## Interrupts and the CPU step -/

/-- R265, R266: NMI first and always; else IRQ where `P.I` is clear; else the instruction, which leaves an IRQ that is
not serviced pending. -/
def Obligations.InterruptArbitration : Prop :=
  ∀ s : State, s.cpu.halted = none →
    (s.cpu.nmiPending = true →
      ∃ t, cpuStep s = .next t ∧ t = interruptEntry 0xFFFA (s.setNmiPending false) ∧
        t.cpu.nmiPending = false ∧ t.cpu.irqPending = s.cpu.irqPending ∧ t.cpu.p.getLsbD 2 = true) ∧
    (s.cpu.nmiPending = false → s.cpu.irqPending = true → s.cpu.p.getLsbD 2 = false →
      ∃ t, cpuStep s = .next t ∧ t = interruptEntry 0xFFFE (s.setIrqPending false) ∧
        t.cpu.irqPending = false ∧ t.cpu.p.getLsbD 2 = true) ∧
    (s.cpu.nmiPending = false → (s.cpu.irqPending = false ∨ s.cpu.p.getLsbD 2 = true) →
      cpuStep s = runInstruction s ∧ ∀ t, cpuStep s = .next t → t.cpu.irqPending = s.cpu.irqPending)

/-- R271: three pushes (PC high, PC low, P with B = 0 and U = 1), I set, PC from the vector by two bus reads (low byte
first), 7 cycles, and nothing else. The two reads are of the cartridge: they change nothing of the no-bank-switching one,
and of another mapper's what its own `read_prg` changes (R80), of which nothing is said here. -/
def Obligations.InterruptEntrySavesPcAndStatus : Prop :=
  ∀ (s : State) (vector : Word), vector = 0xFFFA ∨ vector = 0xFFFE → Memory.wf s.ram →
    ∃ ram' p' pushed,
      BitsChanged s.cpu.p p' [(2, true)] ∧ BitsChanged s.cpu.p pushed [(5, true), (4, false)] ∧
      CellsStored s.ram ram' [(stackCell s.cpu.sp, hi s.cpu.pc), (stackCell (s.cpu.sp - 1), lo s.cpu.pc),
        (stackCell (s.cpu.sp - 2), pushed)] ∧
      let saved : State := { s with ram := ram', cpu := { s.cpu with sp := s.cpu.sp - 3, p := p' } }
      let low := memRead vector saved
      let high := memRead (vector + 1) low.2
      interruptEntry vector s =
        { saved with
          cart := high.2.cart
          cpu := { saved.cpu with pc := w16 high.1 low.1, cycles := s.cpu.cycles + 7 } } ∧
      (s.plainCart → high.2.cart = s.cart ∧ high.1 = peek (vector + 1) s ∧ low.1 = peek vector s)

/-- R251: the three outcomes of a CPU step, and no other. -/
def Obligations.CpuStepHasThreeOutcomes : Prop :=
  ∀ s : State,
    (s.cpu.halted = none ∧ ∃ t, cpuStep s = .next t ∧ s.cpu.cycles + 2 ≤ t.cpu.cycles) ∨
    (s.cpu.halted = none ∧ ∃ op t, op.toNat ∈ illegalOpcodes ∧ cpuStep s = .fault (.illegalOpcode s.cpu.pc op t)) ∨
    (∃ r, s.cpu.halted = some r ∧ cpuStep s = .fault (.halted r.addr r.opcode))

/-- No instruction stops, in any state (R253, R280), and what no instruction touches: the pending flags and the halt
latch (R37, R38), the stored bits 5 and 4 of P (R31), the buttons (R290), the PPU's position, frame count, sprite list and
pictures (R285), the parameters (R8). -/
def Obligations.EveryInstructionCompletes : Prop :=
  ∀ (i : Instr) (s : State), ∃ t, exec i s = .next t ∧ s.cpu.cycles + 2 ≤ t.cpu.cycles ∧
    t.cpu.nmiPending = s.cpu.nmiPending ∧ t.cpu.irqPending = s.cpu.irqPending ∧ t.cpu.halted = s.cpu.halted ∧
    t.cpu.p.getLsbD 5 = s.cpu.p.getLsbD 5 ∧ t.cpu.p.getLsbD 4 = s.cpu.p.getLsbD 4 ∧
    t.pad1.buttons = s.pad1.buttons ∧ t.pad2.buttons = s.pad2.buttons ∧ t.inputs = s.inputs ∧ t.params = s.params ∧
    t.ppu.scanline = s.ppu.scanline ∧ t.ppu.dot = s.ppu.dot ∧ t.ppu.frame = s.ppu.frame ∧
    t.ppu.lineSprites = s.ppu.lineSprites ∧ t.ppu.sprite0Hit = s.ppu.sprite0Hit ∧
    t.ppu.spriteOverflow = s.ppu.spriteOverflow ∧ t.ppu.back = s.ppu.back ∧ t.ppu.front = s.ppu.front

/-- Which mnemonics may write each register and each flag, as the rules list them (R21, R27 to R30, R33); every other
instruction leaves it as it was. -/
def Obligations.RegistersHaveTheListedWriters : Prop :=
  ∀ (i : Instr) (s t : State), exec i s = .next t →
    (t.cpu.a ≠ s.cpu.a → i.mnemonic ∈ [.lda, .pla, .txa, .tya, .adc, .sbc, .and, .ora, .eor] ∨
      i ∈ [.aslAcc, .lsrAcc, .rolAcc, .rorAcc]) ∧
    (t.cpu.x ≠ s.cpu.x → i.mnemonic ∈ [.ldx, .tax, .tsx, .inx, .dex]) ∧
    (t.cpu.y ≠ s.cpu.y → i.mnemonic ∈ [.ldy, .tay, .iny, .dey]) ∧
    (t.cpu.sp ≠ s.cpu.sp → i.mnemonic ∈ [.txs, .pha, .php, .pla, .plp, .jsr, .rts, .brk, .rti]) ∧
    (t.cpu.pc ≠ s.cpu.pc →
      i.mnemonic ∈ [.jmp, .jsr, .rts, .rti, .brk, .bcc, .bcs, .beq, .bne, .bmi, .bpl, .bvc, .bvs]) ∧
    (t.cpu.p.getLsbD 0 ≠ s.cpu.p.getLsbD 0 →
      i.mnemonic ∈ [.adc, .sbc, .cmp, .cpx, .cpy, .asl, .lsr, .rol, .ror, .clc, .sec, .plp, .rti]) ∧
    (t.cpu.p.getLsbD 6 ≠ s.cpu.p.getLsbD 6 → i.mnemonic ∈ [.adc, .sbc, .bit, .clv, .plp, .rti]) ∧
    (t.cpu.p.getLsbD 2 ≠ s.cpu.p.getLsbD 2 → i.mnemonic ∈ [.sei, .cli, .plp, .rti, .brk]) ∧
    (t.cpu.p.getLsbD 3 ≠ s.cpu.p.getLsbD 3 → i.mnemonic ∈ [.sed, .cld, .plp, .rti]) ∧
    (t.cpu.p.getLsbD 1 ≠ s.cpu.p.getLsbD 1 ∨ t.cpu.p.getLsbD 7 ≠ s.cpu.p.getLsbD 7 →
      i.mnemonic ∈ [.lda, .ldx, .ldy, .tax, .tay, .txa, .tya, .tsx, .pla, .adc, .sbc, .and, .ora, .eor, .inc, .inx,
        .iny, .dec, .dex, .dey, .asl, .lsr, .rol, .ror, .cmp, .cpx, .cpy, .bit, .plp, .rti])

/-! ## Addressing -/

/-- R107 to R113: immediate, zero-page, absolute and their indexed forms, by numbers: the indexed zero-page sums wrap
inside page 0, the absolute ones at 65,536; only the latter cross, where the page is not that of `d16`; no access. -/
def Obligations.DirectAndIndexedAddressing : Prop :=
  ∀ (d : Byte) (d16 : Word) (s : State),
    loadOperand (.imm d) s = ⟨d, false, s⟩ ∧
    (effAddr (.zp d) s).addr.toNat = d.toNat ∧
    (effAddr (.zpx d) s).addr.toNat = (d.toNat + s.cpu.x.toNat) % 256 ∧
    (effAddr (.zpy d) s).addr.toNat = (d.toNat + s.cpu.y.toNat) % 256 ∧
    (effAddr (.abs d16) s).addr = d16 ∧
    (effAddr (.abx d16) s).addr.toNat = (d16.toNat + s.cpu.x.toNat) % 65536 ∧
    (effAddr (.aby d16) s).addr.toNat = (d16.toNat + s.cpu.y.toNat) % 65536 ∧
    (∀ m ∈ [MemMode.zp d, .zpx d, .zpy d, .abs d16], (effAddr m s).crossed = false ∧ (effAddr m s).state = s) ∧
    (∀ m ∈ [MemMode.abx d16, .aby d16],
      ((effAddr m s).crossed = true ↔ (effAddr m s).addr.toNat / 256 ≠ d16.toNat / 256) ∧ (effAddr m s).state = s)

/-- R115, R116: the indirect modes: the pointer's two bytes are bytes of page 0, the second at the pointer plus 1
modulo 256; indexed-indirect adds X to the pointer and never crosses, indirect-indexed adds Y to the base. -/
def Obligations.IndirectAddressing : Prop :=
  ∀ (d : Byte) (s : State),
    (let z := (d.toNat + s.cpu.x.toNat) % 256
     (effAddr (.izx d) s).addr.toNat =
       (Memory.read s.ram z).toNat + 256 * (Memory.read s.ram ((z + 1) % 256)).toNat ∧
     (effAddr (.izx d) s).crossed = false ∧ (effAddr (.izx d) s).state = s) ∧
    (let base := (Memory.read s.ram d.toNat).toNat + 256 * (Memory.read s.ram ((d.toNat + 1) % 256)).toNat
     (effAddr (.izy d) s).addr.toNat = (base + s.cpu.y.toNat) % 65536 ∧
     ((effAddr (.izy d) s).crossed = true ↔ (effAddr (.izy d) s).addr.toNat / 256 ≠ base / 256) ∧
     (effAddr (.izy d) s).state = s)

/-- R103, R81: a memory operand is one read of the effective address, and the operand read of any form changes nothing
but the listed read effects; nothing at all where the address is plain memory. For the cartridge space of another mapper
R80 leaves the effects to the mapper: such a read may change all of it but its ROM and bank state (`Cart.own`; R84, log
entry 2). -/
def Obligations.OperandIsOneRead : Prop :=
  ∀ (src : Source) (s : State),
    OnlyReadEffects s (loadOperand src s).state ∧
    ∀ m, src = .mem m →
      (loadOperand src s).value = peek (effAddr m s).addr s ∧
      (loadOperand src s).crossed = (effAddr m s).crossed ∧
      (loadOperand src s).state = (memRead (effAddr m s).addr s).2 ∧
      (plainMemory (effAddr m s).addr s → (loadOperand src s).state = s)

/-! ## Loads, stores, transfers, stack -/

/-- R140 to R142: encodings, the register, Z and N, the cycles; every other field as the operand read left it. -/
def Obligations.LoadsSetRegisterZeroNegative : Prop :=
  ∀ (d : Byte) (d16 : Word) (s : State),
    (∀ f ∈ Forms.lda d d16, encode f.instr = f.bytes ∧ ∃ p',
      BitsChanged s.cpu.p p' (zeroNegative (loadOperand f.source s).value) ∧
      exec f.instr s = .next
        { (loadOperand f.source s).state with
          cpu := { s.cpu with
            a := (loadOperand f.source s).value
            p := p'
            cycles := s.cpu.cycles + readCycles f.base (loadOperand f.source s).crossed } }) ∧
    (∀ f ∈ Forms.ldx d d16, encode f.instr = f.bytes ∧ ∃ p',
      BitsChanged s.cpu.p p' (zeroNegative (loadOperand f.source s).value) ∧
      exec f.instr s = .next
        { (loadOperand f.source s).state with
          cpu := { s.cpu with
            x := (loadOperand f.source s).value
            p := p'
            cycles := s.cpu.cycles + readCycles f.base (loadOperand f.source s).crossed } }) ∧
    (∀ f ∈ Forms.ldy d d16, encode f.instr = f.bytes ∧ ∃ p',
      BitsChanged s.cpu.p p' (zeroNegative (loadOperand f.source s).value) ∧
      exec f.instr s = .next
        { (loadOperand f.source s).state with
          cpu := { s.cpu with
            y := (loadOperand f.source s).value
            p := p'
            cycles := s.cpu.cycles + readCycles f.base (loadOperand f.source s).crossed } })

/-- R143 to R145: encodings; one write of the register at the effective address, no flag, the fixed cycles (and those
an OAM DMA adds in the write). -/
def Obligations.StoresWriteTheRegister : Prop :=
  ∀ (d : Byte) (d16 : Word) (s : State),
    (∀ f ∈ Forms.sta d d16, encode f.instr = f.bytes ∧
      exec f.instr s = .next ((memWrite (effAddr f.mode s).addr s.cpu.a s).addCycles f.base)) ∧
    (∀ f ∈ Forms.stx d d16, encode f.instr = f.bytes ∧
      exec f.instr s = .next ((memWrite (effAddr f.mode s).addr s.cpu.x s).addCycles f.base)) ∧
    (∀ f ∈ Forms.sty d d16, encode f.instr = f.bytes ∧
      exec f.instr s = .next ((memWrite (effAddr f.mode s).addr s.cpu.y s).addCycles f.base))

/-- R146 to R151: the six transfers; TXS alone leaves Z and N. -/
def Obligations.TransfersCopyRegisters : Prop :=
  ∀ s : State,
    (encode .tax = [0xAA] ∧ ∃ p', BitsChanged s.cpu.p p' (zeroNegative s.cpu.a) ∧
      exec .tax s = .next { s with cpu := { s.cpu with x := s.cpu.a, p := p', cycles := s.cpu.cycles + 2 } }) ∧
    (encode .tay = [0xA8] ∧ ∃ p', BitsChanged s.cpu.p p' (zeroNegative s.cpu.a) ∧
      exec .tay s = .next { s with cpu := { s.cpu with y := s.cpu.a, p := p', cycles := s.cpu.cycles + 2 } }) ∧
    (encode .txa = [0x8A] ∧ ∃ p', BitsChanged s.cpu.p p' (zeroNegative s.cpu.x) ∧
      exec .txa s = .next { s with cpu := { s.cpu with a := s.cpu.x, p := p', cycles := s.cpu.cycles + 2 } }) ∧
    (encode .tya = [0x98] ∧ ∃ p', BitsChanged s.cpu.p p' (zeroNegative s.cpu.y) ∧
      exec .tya s = .next { s with cpu := { s.cpu with a := s.cpu.y, p := p', cycles := s.cpu.cycles + 2 } }) ∧
    (encode .tsx = [0xBA] ∧ ∃ p', BitsChanged s.cpu.p p' (zeroNegative s.cpu.sp) ∧
      exec .tsx s = .next { s with cpu := { s.cpu with x := s.cpu.sp, p := p', cycles := s.cpu.cycles + 2 } }) ∧
    (encode .txs = [0x9A] ∧
      exec .txs s = .next { s with cpu := { s.cpu with sp := s.cpu.x, cycles := s.cpu.cycles + 2 } })

/-- R160 to R163: a push writes one byte at 0x0100 + SP and then takes 1 from SP modulo 256, a pull adds 1 to SP modulo
256 and then reads the byte at 0x0100 + SP; PHP pushes bits 5 and 4 set, PLP keeps the stored bits 5 and 4. -/
def Obligations.StackInstructions : Prop :=
  ∀ s : State, Memory.wf s.ram →
    (encode .pha = [0x48] ∧ ∃ ram', CellsStored s.ram ram' [(stackCell s.cpu.sp, s.cpu.a)] ∧
      exec .pha s = .next
        { s with ram := ram', cpu := { s.cpu with sp := s.cpu.sp - 1, cycles := s.cpu.cycles + 3 } }) ∧
    (encode .php = [0x08] ∧ ∃ ram' pushed,
      BitsChanged s.cpu.p pushed [(5, true), (4, true)] ∧
      CellsStored s.ram ram' [(stackCell s.cpu.sp, pushed)] ∧
      exec .php s = .next
        { s with ram := ram', cpu := { s.cpu with sp := s.cpu.sp - 1, cycles := s.cpu.cycles + 3 } }) ∧
    (encode .pla = [0x68] ∧ ∃ p', BitsChanged s.cpu.p p' (zeroNegative (stackByte (s.cpu.sp + 1) s)) ∧
      exec .pla s = .next
        { s with
          cpu := { s.cpu with
            a := stackByte (s.cpu.sp + 1) s, sp := s.cpu.sp + 1, p := p', cycles := s.cpu.cycles + 4 } }) ∧
    (encode .plp = [0x28] ∧ ∃ p',
      BitsChanged (stackByte (s.cpu.sp + 1) s) p' [(5, s.cpu.p.getLsbD 5), (4, s.cpu.p.getLsbD 4)] ∧
      exec .plp s = .next
        { s with cpu := { s.cpu with sp := s.cpu.sp + 1, p := p', cycles := s.cpu.cycles + 4 } })

/-! ## Arithmetic -/

/-- R171: the sum of A, the operand and C; C the carry out of 8 bits, V the signed overflow (by the rule's formula and
by the range of the signed sum), Z and N of the result; D plays no part. -/
def Obligations.AddWithCarry : Prop :=
  ∀ (d : Byte) (d16 : Word) (s : State), ∀ f ∈ Forms.adc d d16,
    let m := (loadOperand f.source s).value
    let sum := s.cpu.a.toNat + m.toNat + carryNat s.cpu.p
    let r := BitVec.ofNat 8 sum
    let v := outOfSignedRange (s.cpu.a.toInt + m.toInt + carryNat s.cpu.p)
    encode f.instr = f.bytes ∧
    ((s.cpu.a ^^^ r) &&& (m ^^^ r)).getLsbD 7 = v ∧
    ∃ p', BitsChanged s.cpu.p p' ([(0, decide (256 ≤ sum)), (6, v)] ++ zeroNegative r) ∧
      exec f.instr s = .next
        { (loadOperand f.source s).state with
          cpu := { s.cpu with
            a := r, p := p', cycles := s.cpu.cycles + readCycles f.base (loadOperand f.source s).crossed } }

/-- R172: A minus the operand minus the borrow (1 - C); C = 1 means no borrow, V the signed overflow (by the rule's
formula and by the range of the signed difference), Z and N of the result; D plays no part. -/
def Obligations.SubtractWithBorrow : Prop :=
  ∀ (d : Byte) (d16 : Word) (s : State), ∀ f ∈ Forms.sbc d d16,
    let m := (loadOperand f.source s).value
    let borrow := 1 - carryNat s.cpu.p
    let r := BitVec.ofNat 8 (s.cpu.a.toNat + 256 - m.toNat - borrow)
    let v := outOfSignedRange (s.cpu.a.toInt - m.toInt - borrow)
    encode f.instr = f.bytes ∧
    ((s.cpu.a ^^^ m) &&& (s.cpu.a ^^^ r)).getLsbD 7 = v ∧
    ∃ p', BitsChanged s.cpu.p p' ([(0, decide (m.toNat + borrow ≤ s.cpu.a.toNat)), (6, v)] ++ zeroNegative r) ∧
      exec f.instr s = .next
        { (loadOperand f.source s).state with
          cpu := { s.cpu with
            a := r, p := p', cycles := s.cpu.cycles + readCycles f.base (loadOperand f.source s).crossed } }

/-- R173 to R175: C the unsigned comparison, Z equality, N bit 7 of the difference; no register and no V. -/
def Obligations.ComparesSetFlagsOnly : Prop :=
  ∀ (d : Byte) (d16 : Word) (s : State) (f : ReadForm) (r : Byte),
    (f ∈ Forms.cmp d d16 ∧ r = s.cpu.a) ∨ (f ∈ Forms.cpx d d16 ∧ r = s.cpu.x) ∨ (f ∈ Forms.cpy d d16 ∧ r = s.cpu.y) →
    let m := (loadOperand f.source s).value
    encode f.instr = f.bytes ∧
    ∃ p', BitsChanged s.cpu.p p'
        [(0, decide (m.toNat ≤ r.toNat)), (1, decide (r = m)), (7, decide (128 ≤ (r.toNat + 256 - m.toNat) % 256))] ∧
      exec f.instr s = .next
        { (loadOperand f.source s).state with
          cpu := { s.cpu with
            p := p', cycles := s.cpu.cycles + readCycles f.base (loadOperand f.source s).crossed } }

/-- R176 to R181: INC and DEC read and write the effective address once, INX, INY, DEX and DEY their register: the byte
one more or one less modulo 256; Z and N, never C or V. -/
def Obligations.IncrementAndDecrement : Prop :=
  (∀ (d : Byte) (d16 : Word) (s : State) (f : ModifyForm) (delta : Nat),
    (f ∈ Forms.inc d d16 ∧ delta = 1) ∨ (f ∈ Forms.dec d d16 ∧ delta = 255) →
    let o := placeOperand f.place s
    let r := BitVec.ofNat 8 (o.1.toNat + delta)
    let w := placeStored f.place r s o.2
    encode f.instr = f.bytes ∧
    ∃ p', BitsChanged s.cpu.p p' (zeroNegative r) ∧
      exec f.instr s = .next { w with cpu := { w.cpu with p := p', cycles := w.cpu.cycles + f.base } }) ∧
  ∀ s : State,
    (encode .inx = [0xE8] ∧ ∃ p', BitsChanged s.cpu.p p' (zeroNegative (BitVec.ofNat 8 (s.cpu.x.toNat + 1))) ∧
      exec .inx s = .next
        { s with cpu := { s.cpu with x := BitVec.ofNat 8 (s.cpu.x.toNat + 1), p := p', cycles := s.cpu.cycles + 2 } }) ∧
    (encode .iny = [0xC8] ∧ ∃ p', BitsChanged s.cpu.p p' (zeroNegative (BitVec.ofNat 8 (s.cpu.y.toNat + 1))) ∧
      exec .iny s = .next
        { s with cpu := { s.cpu with y := BitVec.ofNat 8 (s.cpu.y.toNat + 1), p := p', cycles := s.cpu.cycles + 2 } }) ∧
    (encode .dex = [0xCA] ∧ ∃ p', BitsChanged s.cpu.p p' (zeroNegative (BitVec.ofNat 8 (s.cpu.x.toNat + 255))) ∧
      exec .dex s = .next
        { s with cpu := { s.cpu with x := BitVec.ofNat 8 (s.cpu.x.toNat + 255), p := p', cycles := s.cpu.cycles + 2 } }) ∧
    (encode .dey = [0x88] ∧ ∃ p', BitsChanged s.cpu.p p' (zeroNegative (BitVec.ofNat 8 (s.cpu.y.toNat + 255))) ∧
      exec .dey s = .next
        { s with cpu := { s.cpu with y := BitVec.ofNat 8 (s.cpu.y.toNat + 255), p := p', cycles := s.cpu.cycles + 2 } })

/-! ## Logic and shifts -/

/-- R190 to R193: AND, ORA, EOR combine A with the operand, Z and N of the result; BIT keeps A: Z from `A & m`, N and V
from bits 7 and 6 of the memory byte. -/
def Obligations.LogicAndBitTest : Prop :=
  (∀ (d : Byte) (d16 : Word) (s : State) (f : ReadForm) (r : Byte),
    (f ∈ Forms.and d d16 ∧ r = s.cpu.a &&& (loadOperand f.source s).value) ∨
    (f ∈ Forms.ora d d16 ∧ r = s.cpu.a ||| (loadOperand f.source s).value) ∨
    (f ∈ Forms.eor d d16 ∧ r = s.cpu.a ^^^ (loadOperand f.source s).value) →
    encode f.instr = f.bytes ∧
    ∃ p', BitsChanged s.cpu.p p' (zeroNegative r) ∧
      exec f.instr s = .next
        { (loadOperand f.source s).state with
          cpu := { s.cpu with
            a := r, p := p', cycles := s.cpu.cycles + readCycles f.base (loadOperand f.source s).crossed } }) ∧
  ∀ (d : Byte) (d16 : Word) (s : State), ∀ f ∈ Forms.bit d d16,
    let m := (loadOperand f.source s).value
    encode f.instr = f.bytes ∧
    ∃ p', BitsChanged s.cpu.p p'
        [(1, decide (s.cpu.a &&& m = 0)), (7, decide (128 ≤ m.toNat)), (6, decide (64 ≤ m.toNat % 128))] ∧
      exec f.instr s = .next
        { (loadOperand f.source s).state with cpu := { s.cpu with p := p', cycles := s.cpu.cycles + f.base } }

/-- R194 to R197: the byte doubled modulo 256, or halved, in A or in memory (one read, one write); C the bit shifted
out, the old C entering at the other end of a rotate; Z and N. -/
def Obligations.ShiftsAndRotates : Prop :=
  ∀ (d : Byte) (d16 : Word) (s : State) (f : ModifyForm) (r : Nat) (carry : Bool),
    (f ∈ Forms.asl d d16 ∧ r = 2 * (placeOperand f.place s).1.toNat % 256 ∧
      carry = decide (128 ≤ (placeOperand f.place s).1.toNat)) ∨
    (f ∈ Forms.lsr d d16 ∧ r = (placeOperand f.place s).1.toNat / 2 ∧
      carry = decide ((placeOperand f.place s).1.toNat % 2 = 1)) ∨
    (f ∈ Forms.rol d d16 ∧ r = (2 * (placeOperand f.place s).1.toNat + carryNat s.cpu.p) % 256 ∧
      carry = decide (128 ≤ (placeOperand f.place s).1.toNat)) ∨
    (f ∈ Forms.ror d d16 ∧ r = (placeOperand f.place s).1.toNat / 2 + 128 * carryNat s.cpu.p ∧
      carry = decide ((placeOperand f.place s).1.toNat % 2 = 1)) →
    let w := placeStored f.place (BitVec.ofNat 8 r) s (placeOperand f.place s).2
    encode f.instr = f.bytes ∧
    ∃ p', BitsChanged s.cpu.p p' ([(0, carry)] ++ zeroNegative (BitVec.ofNat 8 r)) ∧
      exec f.instr s = .next { w with cpu := { w.cpu with p := p', cycles := w.cpu.cycles + f.base } }

/-! ## Control flow -/

/-- R210: the target is the operand, or the two bytes at the pointer, the second from the same page; both pointer reads
happen, low byte first. -/
def Obligations.JumpsGoToTheTarget : Prop :=
  ∀ (d16 high : Word) (s : State), high.toNat = d16.toNat / 256 * 256 + (d16.toNat + 1) % 256 →
    let l := memRead d16 s
    let h := memRead high l.2
    encode (.jmpAbs d16) = [0x4C, lo d16, hi d16] ∧ encode (.jmpInd d16) = [0x6C, lo d16, hi d16] ∧
    exec (.jmpAbs d16) s = .next { s with cpu := { s.cpu with pc := d16, cycles := s.cpu.cycles + 3 } } ∧
    exec (.jmpInd d16) s = .next { h.2 with cpu := { s.cpu with pc := w16 h.1 l.1, cycles := s.cpu.cycles + 5 } }

/-- R211, R212: JSR pushes the address of its last byte, high byte first; RTS pulls it, low byte first, and adds 1. -/
def Obligations.SubroutineCallAndReturn : Prop :=
  ∀ (d16 : Word) (s : State), Memory.wf s.ram →
    (encode (.jsr d16) = [0x20, lo d16, hi d16] ∧ ∃ ram',
      CellsStored s.ram ram' [(stackCell s.cpu.sp, hi (s.cpu.pc - 1)), (stackCell (s.cpu.sp - 1), lo (s.cpu.pc - 1))] ∧
      exec (.jsr d16) s = .next
        { s with ram := ram', cpu := { s.cpu with sp := s.cpu.sp - 2, pc := d16, cycles := s.cpu.cycles + 6 } }) ∧
    (encode .rts = [0x60] ∧
      exec .rts s = .next
        { s with
          cpu := { s.cpu with
            sp := s.cpu.sp + 2
            pc := w16 (stackByte (s.cpu.sp + 2) s) (stackByte (s.cpu.sp + 1) s) + 1
            cycles := s.cpu.cycles + 6 } })

/-- R214 to R222: the branch named by `i` tests one bit of P; taken, PC moves by the signed offset and the step costs 3
cycles, 4 into another page; not taken, 2 cycles and nothing else. -/
def Obligations.BranchesFollowTheirFlag : Prop :=
  ∀ (d : Byte) (s : State) (i : Instr) (op : Byte) (bit : Nat) (wanted : Bool),
    (i, op, bit, wanted) ∈
      [(Instr.bcc d, 0x90, 0, false), (.bcs d, 0xB0, 0, true), (.beq d, 0xF0, 1, true), (.bne d, 0xD0, 1, false),
       (.bmi d, 0x30, 7, true), (.bpl d, 0x10, 7, false), (.bvc d, 0x50, 6, false), (.bvs d, 0x70, 6, true)] →
    let target := BitVec.ofInt 16 (s.cpu.pc.toNat + d.toInt)
    encode i = [op, d] ∧
    (s.cpu.p.getLsbD bit = wanted →
      exec i s = .next
        { s with
          cpu := { s.cpu with
            pc := target
            cycles := s.cpu.cycles + if target.toNat / 256 = s.cpu.pc.toNat / 256 then 3 else 4 } }) ∧
    (s.cpu.p.getLsbD bit ≠ wanted →
      exec i s = .next { s with cpu := { s.cpu with cycles := s.cpu.cycles + 2 } })

/-! ## Flags and system instructions -/

/-- R230 to R237: one flag at one value and nothing else, or (NOP) nothing; 2 cycles. -/
def Obligations.FlagInstructionsWriteOneFlag : Prop :=
  ∀ (s : State) (i : Instr) (op : Byte) (changes : List (Nat × Bool)),
    (i, op, changes) ∈
      [(Instr.clc, 0x18, [(0, false)]), (.sec, 0x38, [(0, true)]), (.cli, 0x58, [(2, false)]), (.sei, 0x78, [(2, true)]),
       (.clv, 0xB8, [(6, false)]), (.cld, 0xD8, [(3, false)]), (.sed, 0xF8, [(3, true)]), (.nop, 0xEA, [])] →
    encode i = [op] ∧
    ∃ p', BitsChanged s.cpu.p p' changes ∧
      exec i s = .next { s with cpu := { s.cpu with p := p', cycles := s.cpu.cycles + 2 } }

/-- R238: BRK pushes the address of BRK plus 2 and P with bits 5 and 4 set, sets I, and goes to the IRQ/BRK vector, read by
two bus reads (low byte first). The two reads are of the cartridge: they change nothing of the no-bank-switching one, and
of another mapper's what its own `read_prg` changes (R80), of which nothing is said here. -/
def Obligations.BreakEntersTheIrqVector : Prop :=
  ∀ s : State, Memory.wf s.ram →
    encode .brk = [0x00] ∧ ∃ ram' p' pushed,
      BitsChanged s.cpu.p p' [(2, true)] ∧ BitsChanged s.cpu.p pushed [(5, true), (4, true)] ∧
      CellsStored s.ram ram' [(stackCell s.cpu.sp, hi (s.cpu.pc + 1)), (stackCell (s.cpu.sp - 1), lo (s.cpu.pc + 1)),
        (stackCell (s.cpu.sp - 2), pushed)] ∧
      let saved : State := { s with ram := ram', cpu := { s.cpu with sp := s.cpu.sp - 3, p := p' } }
      let low := memRead 0xFFFE saved
      let high := memRead 0xFFFF low.2
      exec .brk s = .next
        { saved with
          cart := high.2.cart
          cpu := { saved.cpu with pc := w16 high.1 low.1, cycles := s.cpu.cycles + 7 } } ∧
      (s.plainCart → high.2.cart = s.cart ∧ high.1 = peek 0xFFFF s ∧ low.1 = peek 0xFFFE s)

/-- R239: RTI pulls P (the stored bits 5 and 4 kept), then PC, low byte first, with no 1 added. -/
def Obligations.ReturnFromInterruptRestores : Prop :=
  ∀ s : State, encode .rti = [0x40] ∧ ∃ p',
    BitsChanged (stackByte (s.cpu.sp + 1) s) p' [(5, s.cpu.p.getLsbD 5), (4, s.cpu.p.getLsbD 4)] ∧
    exec .rti s = .next
      { s with
        cpu := { s.cpu with
          sp := s.cpu.sp + 3
          p := p'
          pc := w16 (stackByte (s.cpu.sp + 3) s) (stackByte (s.cpu.sp + 2) s)
          cycles := s.cpu.cycles + 6 } }

/-- What is pushed comes back (R31, R163, R211, R212, R239, R271): PHP then PLP restores all of P whatever its stored bits
are, PHA then PLA restores A, JSR then RTS returns to the byte after the JSR; an interrupt entry then RTI resumes at the
same PC with the same P, and after BRK at the address of BRK plus 2; A, X, Y never touched and SP back every time. -/
def Obligations.PushThenPullRestores : Prop :=
  ∀ (d16 : Word) (s : State), Memory.wf s.ram →
    (∃ t u, exec .php s = .next t ∧ exec .plp t = .next u ∧ u.cpu.p = s.cpu.p ∧ u.cpu.sp = s.cpu.sp) ∧
    (∃ t u, exec .pha s = .next t ∧ exec .pla t = .next u ∧ u.cpu.a = s.cpu.a ∧ u.cpu.sp = s.cpu.sp) ∧
    (∃ t u, exec (.jsr d16) s = .next t ∧ exec .rts t = .next u ∧ u.cpu.pc = s.cpu.pc ∧ u.cpu.sp = s.cpu.sp) ∧
    (∀ vector, vector = nmiVector ∨ vector = irqVector →
      ∃ u, exec .rti (interruptEntry vector s) = .next u ∧ u.cpu.pc = s.cpu.pc ∧ u.cpu.p = s.cpu.p ∧
        u.cpu.sp = s.cpu.sp ∧ u.cpu.a = s.cpu.a ∧ u.cpu.x = s.cpu.x ∧ u.cpu.y = s.cpu.y) ∧
    (∃ t u, exec .brk s = .next t ∧ exec .rti t = .next u ∧ u.cpu.pc = s.cpu.pc + 1 ∧ u.cpu.p = s.cpu.p ∧
        u.cpu.sp = s.cpu.sp ∧ u.cpu.a = s.cpu.a ∧ u.cpu.x = s.cpu.x ∧ u.cpu.y = s.cpu.y)

/-! ## Frames of memory -/

/-- An instruction that stores nothing leaves every byte of memory as it was: every plain byte of the CPU's address
space, and the nametables, the palette and OAM; the cartridge; and the device registers that only a store writes. A read
of another mapper's cartridge may change all of it but its ROM and bank state (`Cart.own`; R80, R84, log entry 2). -/
def Obligations.NonStoringInstructionsKeepMemory : Prop :=
  ∀ (i : Instr) (s t : State),
    i.mnemonic ∉ [.sta, .stx, .sty, .pha, .php, .jsr, .brk, .inc, .dec, .asl, .lsr, .rol, .ror] ∨
      i ∈ [.aslAcc, .lsrAcc, .rolAcc, .rorAcc] →
    exec i s = .next t →
    (∀ a, plainMemory a s → peek a t = peek a s) ∧
    t.cart = s.cart.withOwn t.cart.own ∧ (s.plainCart → t.cart = s.cart) ∧
    t.ram = s.ram ∧ t.ppu.nt = s.ppu.nt ∧ t.ppu.pal = s.ppu.pal ∧ t.ppu.oam = s.ppu.oam ∧
    t.ppu.ctrl = s.ppu.ctrl ∧ t.ppu.mask = s.ppu.mask ∧ t.ppu.t = s.ppu.t ∧ t.ppu.x = s.ppu.x ∧
    t.ppu.oamAddr = s.ppu.oamAddr ∧ t.ppu.nmiRequest = s.ppu.nmiRequest ∧
    t.pad1.shift = s.pad1.shift ∧ t.pad2.shift = s.pad2.shift ∧
    t.pad1.strobe = s.pad1.strobe ∧ t.pad2.strobe = s.pad2.strobe

/-- A store or a memory read-modify-write changes no plain byte but the one at its effective address (seen through a RAM
mirror too). A byte in the space of another mapper is no plain byte: a store there may switch its windows (R84). -/
def Obligations.StoringInstructionsChangeOneByte : Prop :=
  ∀ (d : Byte) (d16 : Word) (s t : State) (i : Instr) (m : MemMode),
    (∃ f ∈ Forms.sta d d16 ++ Forms.stx d d16 ++ Forms.sty d d16, f.instr = i ∧ f.mode = m) ∨
      (∃ f ∈ Forms.inc d d16 ++ Forms.dec d d16 ++ Forms.asl d d16 ++ Forms.lsr d d16 ++ Forms.rol d d16 ++
        Forms.ror d d16, f.instr = i ∧ f.place = .mem m) →
    exec i s = .next t →
    ∀ a, plainMemory a s → ¬ sameByte a (effAddr m s).addr → peek a t = peek a s

/-- What a store stores is there: RAM, and present RAM of the no-bank-switching cartridge, give the byte back; its ROM
and its empty space give what they gave (R362). -/
def Obligations.StoredBytesReadBack : Prop :=
  ∀ (a : Word) (v : Byte) (s : State), s.MemoriesSound →
    (a.toNat < 0x2000 → peek a (memWrite a v s) = v) ∧
    ∀ c, s.cart = .plain c →
      (0x6000 ≤ a.toNat → a.toNat < 0x8000 → c.prgRam ≠ none → peek a (memWrite a v s) = v) ∧
      (0x6000 ≤ a.toNat → a.toNat < 0x8000 → c.prgRam = none → memWrite a v s = s ∧ peek a s = 0) ∧
      (0x8000 ≤ a.toNat → memWrite a v s = s) ∧
      (0x4020 ≤ a.toNat → a.toNat < 0x6000 → memWrite a v s = s ∧ peek a s = 0)

/-! ## The bus -/

/-- R65 to R70: the read map and the write map, address range by address range. A cartridge read changes no state for the
no-bank-switching variant (R66), and for another mapper what its `read_prg` changes of the cartridge (R80). -/
def Obligations.BusReadAndWriteMap : Prop :=
  ∀ (a : Word) (v : Byte) (s : State),
    (a.toNat ≤ 0x1FFF → memRead a s = (Memory.read s.ram (a.toNat % 0x800), s)) ∧
    (∀ i r, isPpuAddress i a → ppuRegisters[i]? = some r →
      let x := ppuRegRead s.params s.cart s.ppu r
      memRead a s = (x.1, { s with ppu := x.2.1, cart := x.2.2 })) ∧
    (a = 0x4016 → memRead a s = (BitVec.ofNat 8 (bitNat s.pad1.read.1), { s with pad1 := s.pad1.read.2 })) ∧
    (a = 0x4017 → memRead a s = (BitVec.ofNat 8 (bitNat s.pad2.read.1), { s with pad2 := s.pad2.read.2 })) ∧
    (isUnmapped a ∨ a = 0x4014 → memRead a s = (0, s)) ∧
    (0x4020 ≤ a.toNat → memRead a s = ((s.cart.readPrg a).1, { s with cart := (s.cart.readPrg a).2 })) ∧
    (0x4020 ≤ a.toNat → s.plainCart → (memRead a s).2 = s) ∧
    (a.toNat ≤ 0x1FFF → memWrite a v s = { s with ram := Memory.write s.ram (a.toNat % 0x800) v }) ∧
    (∀ i r, isPpuAddress i a → ppuRegisters[i]? = some r →
      memWrite a v s =
        { s with ppu := (ppuRegWrite s.params s.cart s.ppu r v).1, cart := (ppuRegWrite s.params s.cart s.ppu r v).2 }) ∧
    (a = 0x4014 → memWrite a v s = oamDma v s) ∧
    (a = 0x4016 → memWrite a v s =
      { s with
        pad1 := s.pad1.writeStrobe (decide (v.toNat % 2 = 1)), pad2 := s.pad2.writeStrobe (decide (v.toNat % 2 = 1)) }) ∧
    (isUnmapped a ∨ a = 0x4017 → memWrite a v s = s) ∧
    (0x4020 ≤ a.toNat → memWrite a v s = { s with cart := s.cart.writePrg a v })

/-- R80: the addresses whose read has a side effect, and what it is; every other read changes nothing, and reads the
same again. A read of another mapper's cartridge has the effects of its mapper (R80), on the cartridge alone: on all of
it but its ROM and bank state (`Cart.own`; R84, log entry 2). -/
def Obligations.BusReadSideEffects : Prop :=
  ∀ (a : Word) (s : State),
    OnlyReadEffects s (memRead a s).2 ∧
    (isPpuAddress 2 a → (memRead a s).2 = { s with ppu := { s.ppu with vblank := false, w := false } }) ∧
    (isPpuAddress 7 a → ∃ b, (memRead a s).2 =
      { s with
        ppu := { s.ppu with readBuffer := b, v := s.ppu.nextV }, cart := s.cart.withOwn (memRead a s).2.cart.own }) ∧
    (a = 0x4016 → (memRead a s).2 =
      { s with pad1 := { s.pad1 with
          index := if s.pad1.strobe = false ∧ s.pad1.index < 8 then s.pad1.index + 1 else s.pad1.index } }) ∧
    (a = 0x4017 → (memRead a s).2 =
      { s with pad2 := { s.pad2 with
          index := if s.pad2.strobe = false ∧ s.pad2.index < 8 then s.pad2.index + 1 else s.pad2.index } }) ∧
    (0x4020 ≤ a.toNat → (memRead a s).2 = { s with cart := s.cart.withOwn (memRead a s).2.cart.own }) ∧
    (s.plainCart → (memRead a s).2.cart = s.cart) ∧
    (¬ isPpuAddress 2 a → ¬ isPpuAddress 7 a → a ≠ 0x4016 → a ≠ 0x4017 → a.toNat < 0x4020 ∨ s.plainCart →
      (memRead a s).2 = s)

/-! ## The PPU's registers -/

/-- R320, R321, R323 through the bus: PPUCTRL, its two bits into `t`, the NMI request its NMI bit may arm; PPUMASK;
OAMADDR. R329: the write-only registers 0, 1, 3, 5, 6 read 0 and change nothing, and a write to register 2 changes
nothing. -/
def Obligations.ControlMaskAndOamAddressWrites : Prop :=
  ∀ (a : Word) (val : Byte) (s : State),
    (isPpuAddress 0 a → ∃ t', BitsChanged s.ppu.t t' (fieldBits 10 2 val 0) ∧
      memWrite a val s =
        { s with
          ppu := { s.ppu with
            ctrl := val
            t := t'
            nmiRequest := s.ppu.nmiRequest ||
              (s.ppu.ctrl.getLsbD 7 == false && val.getLsbD 7 == true && s.ppu.vblank == true) } }) ∧
    (isPpuAddress 1 a → memWrite a val s = { s with ppu := { s.ppu with mask := val } }) ∧
    (isPpuAddress 3 a → memWrite a val s = { s with ppu := { s.ppu with oamAddr := val } }) ∧
    (∀ i ∈ [0, 1, 3, 5, 6], isPpuAddress i a → memRead a s = (0, s)) ∧
    (isPpuAddress 2 a → memWrite a val s = s)

/-- R322: the status byte, and what the read clears; a second read does not report vblank again. -/
def Obligations.StatusReadClearsVblankAndLatch : Prop :=
  ∀ (a : Word) (s : State), isPpuAddress 2 a →
    (peek a s).toNat = 128 * bitNat s.ppu.vblank + 64 * bitNat s.ppu.sprite0Hit + 32 * bitNat s.ppu.spriteOverflow ∧
    (memRead a s).2 = { s with ppu := { s.ppu with vblank := false, w := false } } ∧
    (peek a (memRead a s).2).toNat < 128

/-- R325, R326: the two-write registers by the shared latch. -/
def Obligations.ScrollAndAddressWriteTwice : Prop :=
  ∀ (a : Word) (val : Byte) (s : State),
    (isPpuAddress 5 a → s.ppu.w = false → ∃ t', BitsChanged s.ppu.t t' (fieldBits 0 5 val 3) ∧
      memWrite a val s =
        { s with ppu := { s.ppu with t := t', x := BitVec.ofNat 3 (val.toNat % 8), w := true } }) ∧
    (isPpuAddress 5 a → s.ppu.w = true → ∃ t', BitsChanged s.ppu.t t' (fieldBits 5 5 val 3 ++ fieldBits 12 3 val 0) ∧
      memWrite a val s = { s with ppu := { s.ppu with t := t', w := false } }) ∧
    (isPpuAddress 6 a → s.ppu.w = false → ∃ t', BitsChanged s.ppu.t t' (fieldBits 8 6 val 0 ++ [(14, false)]) ∧
      memWrite a val s = { s with ppu := { s.ppu with t := t', w := true } }) ∧
    (isPpuAddress 6 a → s.ppu.w = true → ∃ t', BitsChanged s.ppu.t t' (fieldBits 0 8 val 0) ∧
      memWrite a val s = { s with ppu := { s.ppu with t := t', v := t', w := false } })

/-- R327, R328: PPUDATA: the read is delayed through the buffer below the palette and immediate in it (the buffer then
takes the nametable byte below); the write goes to the PPU's address space; either moves `v` by 1 or 32. -/
def Obligations.DataPortReadsAndWrites : Prop :=
  ∀ (a : Word) (val : Byte) (s : State) (pa : PpuAddr) (v' : BitVec 15),
    isPpuAddress 7 a → pa.toNat = s.ppu.v.toNat % 0x4000 →
    v'.toNat = (s.ppu.v.toNat + if s.ppu.ctrl.getLsbD 2 then 32 else 1) % 32768 →
    (pa.toNat ≤ 0x3EFF → memRead a s =
      (s.ppu.readBuffer,
       { s with
         ppu := { s.ppu with readBuffer := (ppuRead s.params s.cart s.ppu pa).1, v := v' }
         cart := (ppuRead s.params s.cart s.ppu pa).2 })) ∧
    (0x3F00 ≤ pa.toNat → memRead a s =
      ((ppuRead s.params s.cart s.ppu pa).1,
       { s with ppu := { s.ppu with readBuffer := (ppuRead s.params s.cart s.ppu (pa - 0x1000)).1, v := v' } })) ∧
    memWrite a val s =
      { s with
        ppu := { (ppuWrite s.params s.cart s.ppu pa val).1 with v := v' }
        cart := (ppuWrite s.params s.cart s.ppu pa val).2 }

/-- R324: an OAMDATA write stores at `oam_addr` and moves it by 1 modulo 256, a read does neither. R330: 256 bus reads of
the page in ascending order, each with its side effect, byte i into OAM at `oam_addr` + i modulo 256; `oam_addr` stays;
`DMA_CYCLES` (513 by default, R8) cycles. From a page of plain memory, OAM is the page and nothing else changes. A read
of another mapper's cartridge may change all of it but its ROM and bank state (`Cart.own`; R84, log entry 2). -/
def Obligations.OamPortAndDma : Prop :=
  (∀ (a : Word) (val : Byte) (s : State), isPpuAddress 4 a → Memory.wf s.ppu.oam →
    memRead a s = (Memory.read s.ppu.oam s.ppu.oamAddr.toNat, s) ∧
    ∃ oam', CellsStored s.ppu.oam oam' [(s.ppu.oamAddr.toNat, val)] ∧
      memWrite a val s =
        { s with ppu := { s.ppu with oam := oam', oamAddr := BitVec.ofNat 8 (s.ppu.oamAddr.toNat + 1) } }) ∧
  ∀ (page : Byte) (s : State),
    (∃ σ : Nat → State, σ 0 = s ∧ memWrite 0x4014 page s = (σ 256).addCycles s.params.dmaCycles ∧
      ∀ i < 256,
        let r := memRead (BitVec.ofNat 16 (256 * page.toNat + i)) (σ i)
        OnlyReadEffects (σ i) r.2 ∧
        σ (i + 1) =
          { r.2 with
            ppu := { r.2.ppu with oam := Memory.write r.2.ppu.oam ((s.ppu.oamAddr.toNat + i) % 256) r.1 } }) ∧
    (page.toNat < 0x20 ∨ (0x41 ≤ page.toNat ∧ s.plainCart) → Memory.wf s.ppu.oam →
      ∃ oam', Memory.wf oam' ∧
        (∀ i < 256, Memory.read oam' ((s.ppu.oamAddr.toNat + i) % 256) =
          peek (BitVec.ofNat 16 (256 * page.toNat + i)) s) ∧
        memWrite 0x4014 page s =
          { s with
            ppu := { s.ppu with oam := oam' }
            cpu := { s.cpu with cycles := s.cpu.cycles + s.params.dmaCycles } })

/-! ## The PPU's memories, the controllers, the cartridge -/

/-- R311 to R314: the page of each nametable under each mirroring mode (the single-screen page is the parameter
`SINGLE_SCREEN_PAGE`), the mirror at 0x3000, and a write: the one cell of `NT`, and nothing else of the PPU or the
cartridge. -/
def Obligations.NametableMirroring : Prop :=
  ∀ (cfg : Params) (a : PpuAddr), 0x2000 ≤ a.toNat → a.toNat ≤ 0x2FFF →
    (let table := (a.toNat - 0x2000) / 1024
     let off := a.toNat % 1024
     ntOffset cfg .horizontal a = (if table < 2 then 0 else 1) * 1024 + off ∧
     ntOffset cfg .vertical a = (if table = 0 ∨ table = 2 then 0 else 1) * 1024 + off ∧
     ntOffset cfg .singleScreen a = cfg.singleScreenPage.val * 1024 + off ∧
     ntOffset cfg .fourScreen a = table * 1024 + off) ∧
    ∀ (c : Cart) (p : Ppu) (val : Byte),
      ppuRead cfg c p a = (Memory.read p.nt (ntOffset cfg c.mirroringMode a), c) ∧
      (a.toNat ≤ 0x2EFF → ppuRead cfg c p (a + 0x1000) = ppuRead cfg c p a) ∧
      (Memory.wf p.nt → ∃ nt', CellsStored p.nt nt' [(ntOffset cfg c.mirroringMode a, val)] ∧
        ppuWrite cfg c p a val = ({ p with nt := nt' }, c)) ∧
      (a.toNat ≤ 0x2EFF → ppuWrite cfg c p (a + 0x1000) val = ppuWrite cfg c p a val)

/-- R315, R313: the palette's 32 entries mirrored every 32 bytes; entries 0x10, 0x14, 0x18, 0x1C are entries 0x00, 0x04,
0x08, 0x0C; a write keeps 6 bits and changes no other entry. -/
def Obligations.PaletteMirroring : Prop :=
  ∀ (a b : PpuAddr) (cfg : Params) (c : Cart) (p : Ppu) (val : Byte),
    0x3F00 ≤ a.toNat → 0x3F00 ≤ b.toNat → Memory.wf p.pal →
    (palIndex a = if a.toNat % 4 = 0 then a.toNat % 16 else a.toNat % 32) ∧
    (ppuWrite cfg c p a val).2 = c ∧
    (ppuWrite cfg c p a val).1 = { p with pal := (ppuWrite cfg c p a val).1.pal } ∧
    (ppuRead cfg c (ppuWrite cfg c p a val).1 a).1.toNat = val.toNat % 64 ∧ (ppuRead cfg c p a).2 = c ∧
    (palIndex b = palIndex a → ppuRead cfg c p b = ppuRead cfg c p a) ∧
    (palIndex b ≠ palIndex a → ppuRead cfg c (ppuWrite cfg c p a val).1 b = ppuRead cfg c p b)

/-- R352: a write of 1 reloads a port whose strobe was 0 and leaves one whose strobe was 1 as it is; a write of 0 only
lowers the strobe. R353: while the strobe is 1 a read gives bit 0 of the shift register and does not advance, else the
indexed bit, then 1. So after a strobe pulse eight reads give the buttons in order A to Right, and every later read gives
1; each port on its own. -/
def Obligations.ControllersReadInOrder : Prop :=
  ∀ (one zero : Byte) (s : State), one.getLsbD 0 = true → zero.getLsbD 0 = false →
    let raised := fun c : Controller => if c.strobe then c else ⟨c.buttons, c.buttons, 0, true⟩
    memWrite 0x4016 one s = { s with pad1 := raised s.pad1, pad2 := raised s.pad2 } ∧
    memWrite 0x4016 zero s =
      { s with pad1 := { s.pad1 with strobe := false }, pad2 := { s.pad2 with strobe := false } } ∧
    (s.pad1.strobe = true → memRead 0x4016 s = (BitVec.ofNat 8 (bitNat (s.pad1.shift.getLsbD 0)), s)) ∧
    (s.pad2.strobe = true → memRead 0x4017 s = (BitVec.ofNat 8 (bitNat (s.pad2.shift.getLsbD 0)), s)) ∧
    (s.pad1.strobe = false → memRead 0x4016 s =
      if s.pad1.index < 8 then
        (BitVec.ofNat 8 (bitNat (s.pad1.shift.getLsbD s.pad1.index)),
          { s with pad1 := { s.pad1 with index := s.pad1.index + 1 } })
      else (1, s)) ∧
    (s.pad2.strobe = false → memRead 0x4017 s =
      if s.pad2.index < 8 then
        (BitVec.ofNat 8 (bitNat (s.pad2.shift.getLsbD s.pad2.index)),
          { s with pad2 := { s.pad2 with index := s.pad2.index + 1 } })
      else (1, s)) ∧
    (s.pad1.strobe = false → s.pad2.strobe = false →
      let up := memWrite 0x4016 one s
      let down := memWrite 0x4016 zero up
      memRead 0x4016 up = (BitVec.ofNat 8 (bitNat (s.pad1.buttons.getLsbD 0)), up) ∧
      memRead 0x4017 up = (BitVec.ofNat 8 (bitNat (s.pad2.buttons.getLsbD 0)), up) ∧
      ∀ k,
        (peek 0x4016 ((fun t => (memRead 0x4016 t).2)^[k] down)).toNat =
          (if k < 8 then bitNat (s.pad1.buttons.getLsbD k) else 1) ∧
        (peek 0x4017 ((fun t => (memRead 0x4017 t).2)^[k] down)).toNat =
          (if k < 8 then bitNat (s.pad2.buttons.getLsbD k) else 1))

/-- R361 to R365: the no-bank-switching cartridge: the ROM window with its mirror, the RAM window, the empty space; its CHR
bytes as they lie, a CHR write only where CHR is RAM; its mirroring mode; no read changes it. R311 to R313: the PPU's
addresses up to 0x1FFF are the CHR operations of whatever cartridge is there. R366: another mapper's operations keep
which mapper it is and its ROM, and its bank state changes by a write only (R84); all else of its state they may change
(log entry 2). -/
def Obligations.CartridgeWindows : Prop :=
  (∀ (cfg : Params) (c : Cart) (p : Ppu) (pa : PpuAddr) (v : Byte), pa.toNat ≤ 0x1FFF →
    ppuRead cfg c p pa = c.readChr pa.toNat ∧ ppuWrite cfg c p pa v = (p, c.writeChr pa.toNat v)) ∧
  (∀ (c : PlainCart) (addr : Word) (a : Nat) (v : Byte), c.wellFormed →
    (0x8000 ≤ addr.toNat →
      (Cart.plain c).readPrg addr = (Memory.read c.prgRom (addr.toNat % c.prgLen), .plain c)) ∧
    (0x6000 ≤ addr.toNat → addr.toNat < 0x8000 →
      (Cart.plain c).readPrg addr =
        ((match c.prgRam with | some m => Memory.read m (addr.toNat - 0x6000) | none => 0), .plain c)) ∧
    (addr.toNat < 0x6000 → (Cart.plain c).readPrg addr = (0, .plain c)) ∧
    (Cart.plain c).mirroringMode = c.mirroring ∧
    (a < 8192 → (Cart.plain c).readChr a = (Memory.read c.chr a, .plain c)) ∧
    (c.chrIsRam = false → (Cart.plain c).writeChr a v = .plain c) ∧
    (c.chrIsRam = true → ∃ chr', CellsStored c.chr chr' [(a, v)] ∧
      (Cart.plain c).writeChr a v = .plain { c with chr := chr' })) ∧
  ∀ (c : OtherCart) (addr : Word) (a : Nat) (v : Byte),
    (∃ e, ((Cart.other c).readPrg addr).2 = .other { c with own := e }) ∧
    (∃ e, ((Cart.other c).readChr a).2 = .other { c with own := e }) ∧
    (∃ b e, (Cart.other c).writePrg addr v = .other { c with bank := b, own := e }) ∧
    (∃ b e, (Cart.other c).writeChr a v = .other { c with bank := b, own := e })

/-! ## The PPU's own work -/

/-- R301: `n` ticks move the position by `n` dots, 341 a line and 89,342 a frame, and keep it in range. -/
def Obligations.TicksAdvanceThePosition : Prop :=
  ∀ (cfg : Params) (c : Cart) (p : Ppu) (n : Nat), p.scanline ≤ 261 → p.dot ≤ 340 →
    let q := (p.ticks cfg c n).1
    q.scanline ≤ 261 ∧ q.dot ≤ 340 ∧
    q.scanline * 341 + q.dot + 89342 * q.frame = p.scanline * 341 + p.dot + 89342 * p.frame + n

/-- R336, R337: the tick that enters (241, 1) sets vblank and requests an NMI exactly where `ctrl[7]` is set; the tick
that enters line 261 at `PRERENDER_CLEAR_DOT` clears vblank, sprite-0-hit and sprite-overflow; from the reset clear, vblank
is first set by tick 82,182 and stays set up to the pre-render clear at tick 89,001 plus that dot. -/
def Obligations.VblankAndNmiTiming : Prop :=
  (∀ (cfg : Params) (c : Cart) (p : Ppu), (p.tick cfg c).1.scanline = 241 → (p.tick cfg c).1.dot = 1 →
    (p.tick cfg c).1.vblank = true ∧ (p.tick cfg c).1.nmiRequest = (p.nmiRequest || p.ctrl.getLsbD 7)) ∧
  (∀ (cfg : Params) (c : Cart) (p : Ppu), (p.tick cfg c).1.scanline = 261 →
    (p.tick cfg c).1.dot = cfg.prerenderClearDot.val →
    (p.tick cfg c).1.vblank = false ∧ (p.tick cfg c).1.sprite0Hit = false ∧ (p.tick cfg c).1.spriteOverflow = false ∧
    (p.tick cfg c).1.nmiRequest = p.nmiRequest) ∧
  (∀ (cfg : Params) (c : Cart) (p : Ppu),
    ((p.tick cfg c).1.scanline, (p.tick cfg c).1.dot) ∉ [(241, 1), (261, cfg.prerenderClearDot.val)] →
    (p.tick cfg c).1.vblank = p.vblank ∧ (p.tick cfg c).1.nmiRequest = p.nmiRequest) ∧
  ∀ (cfg : Params) (c : Cart) (n : Nat), n < 89001 + cfg.prerenderClearDot.val →
    ((Ppu.clearedAt 0).ticks cfg c n).1.vblank = decide (82182 ≤ n)

/-- R302, R341: a tick writes the picture being drawn only at the pixel of its visible position, and the completed
picture only when line 261 wraps to line 0, where it becomes the one that was drawn. -/
def Obligations.FrameBuffersChangeWhereTheRulesSay : Prop :=
  ∀ (cfg : Params) (c : Cart) (p : Ppu),
    (∀ k, Memory.read (p.tick cfg c).1.back k ≠ Memory.read p.back k →
      (p.tick cfg c).1.scanline ≤ 239 ∧ 1 ≤ (p.tick cfg c).1.dot ∧ (p.tick cfg c).1.dot ≤ 256 ∧
      k = 256 * (p.tick cfg c).1.scanline + ((p.tick cfg c).1.dot - 1)) ∧
    ((p.tick cfg c).1.scanline = 0 ∧ (p.tick cfg c).1.dot = 0 → p.dot = 340 → (p.tick cfg c).1.front = p.back) ∧
    (p.dot < 340 ∨ p.scanline < 261 → (p.tick cfg c).1.front = p.front ∧ (p.tick cfg c).1.frame = p.frame)

/-- R339: the sprites selected for line `s + 1` are the OAM entries in range, in index order, the first eight; overflow
is set exactly by a ninth. -/
def Obligations.SpriteSelection : Prop :=
  ∀ (p : Ppu) (s : Nat),
    let height := if p.ctrl.getLsbD 5 then 16 else 8
    let inRange := (List.range 64).filter fun n =>
      decide ((Memory.read p.oam (4 * n)).toNat ≤ s ∧ s < (Memory.read p.oam (4 * n)).toNat + height)
    let q := p.evaluateSprites s
    q.lineSprites.map (·.index) = inRange.take 8 ∧
    (∀ sp ∈ q.lineSprites, sp.y = Memory.read p.oam (4 * sp.index) ∧ sp.tile = Memory.read p.oam (4 * sp.index + 1) ∧
      sp.attr = Memory.read p.oam (4 * sp.index + 2) ∧ sp.x = Memory.read p.oam (4 * sp.index + 3)) ∧
    q.spriteOverflow = (p.spriteOverflow || decide (9 ≤ inRange.length)) ∧
    q = { p with lineSprites := q.lineSprites, spriteOverflow := q.spriteOverflow }

/-- R335: the scroll operations on the fields of `v` and `t`. -/
def Obligations.ScrollCounters : Prop :=
  ∀ v t : BitVec 15,
    let fine := v.toNat / 4096
    let coarse := v.toNat / 32 % 32
    (fine < 7 → (incrementY v).toNat = v.toNat + 4096) ∧
    (fine = 7 → coarse = 29 → ∃ w, BitsChanged v w (fieldBits 12 3 (0 : BitVec 3) 0 ++ fieldBits 5 5 (0 : BitVec 5) 0
      ++ [(11, !v.getLsbD 11)]) ∧ incrementY v = w) ∧
    (fine = 7 → coarse = 31 → ∃ w, BitsChanged v w (fieldBits 12 3 (0 : BitVec 3) 0 ++ fieldBits 5 5 (0 : BitVec 5) 0) ∧
      incrementY v = w) ∧
    (fine = 7 → coarse ≠ 29 → coarse ≠ 31 → (incrementY v).toNat + 4096 * 7 = v.toNat + 32) ∧
    BitsChanged v (copyX v t) (fieldBits 0 5 t 0 ++ [(10, t.getLsbD 10)]) ∧
    BitsChanged v (copyY v t) (fieldBits 5 5 t 5 ++ [(11, t.getLsbD 11)] ++ fieldBits 12 3 t 12)

/-- R338: the background pixel with its four fetches, one after another, at addresses given by numbers, each from the
cartridge as the one before left it. -/
def Obligations.BackgroundPixelFetches : Prop :=
  ∀ (cfg : Params) (c : Cart) (p : Ppu) (px : Nat) (ta aa la : PpuAddr), px < 256 →
    let coarse := p.v.toNat % 32
    let cy := p.v.toNat / 32 % 32
    let fx := p.x.toNat + px
    let col := coarse + fx / 8
    let cx := col % 32
    let ntx := if 32 ≤ col then 1 - p.v.toNat / 1024 % 2 else p.v.toNat / 1024 % 2
    let nty := p.v.toNat / 2048 % 2
    ta.toNat = 0x2000 + 2048 * nty + 1024 * ntx + 32 * cy + cx →
    aa.toNat = 0x23C0 + 2048 * nty + 1024 * ntx + 8 * (cy / 4) + cx / 4 →
    let tile := ppuRead cfg c p ta
    la.toNat = 4096 * bitNat (p.ctrl.getLsbD 4) + 16 * tile.1.toNat + p.v.toNat / 4096 →
    let atb := ppuRead cfg tile.2 p aa
    let low := ppuRead cfg atb.2 p la
    let high := ppuRead cfg low.2 p (la + 8)
    let b := 7 - fx % 8
    ((p.mask.getLsbD 3 = false ∨ (px < 8 ∧ p.mask.getLsbD 1 = false)) → bgPixel cfg c p px = (⟨0, 0⟩, c)) ∧
    (p.mask.getLsbD 3 = true → 8 ≤ px ∨ p.mask.getLsbD 1 = true →
      (bgPixel cfg c p px).1.pix.toNat = 2 * (high.1.toNat / 2 ^ b % 2) + low.1.toNat / 2 ^ b % 2 ∧
      (bgPixel cfg c p px).1.pal.toNat = atb.1.toNat / 2 ^ (4 * (cy / 2 % 2) + 2 * (cx / 2 % 2)) % 4 ∧
      (bgPixel cfg c p px).2 = high.2)

/-- R342: the sprite pixel: nothing where sprites are off, clipped or not listed; else the first listed sprite decides
where its value at the column is opaque, its pattern bytes at addresses given by numbers, and where it is not, the rest of
the list does, from the cartridge as the fetches left it. So on the no-bank-switching cartridge it is the first sprite of
the list with an opaque value. Stated for sprites whose row is 0 to h - 1, as the rule says it is; outside that the rule's
subtraction is below 0 and the model's row is a free value (log entry 4). -/
def Obligations.SpritePixelIsTheFirstOpaque : Prop :=
  ∀ (cfg : Params) (c : Cart) (p : Ppu) (px s : Nat),
    let height := if p.ctrl.getLsbD 5 then 16 else 8
    let inRange := fun sp : Sprite => sp.y.toNat + 1 ≤ s ∧ s - 1 - sp.y.toNat < height
    let pattern := fun sp : Sprite =>
      let down := s - 1 - sp.y.toNat
      let row := if sp.attr.getLsbD 7 then height - 1 - down else down
      let tile := sp.tile.toNat
      if p.ctrl.getLsbD 5 then 4096 * (tile % 2) + 16 * (tile - tile % 2 + row / 8) + row % 8
      else 4096 * bitNat (p.ctrl.getLsbD 3) + 16 * tile + row
    let fetched := fun (d : Cart) (sp : Sprite) =>
      let low := ppuRead cfg d p (BitVec.ofNat 14 (pattern sp))
      let high := ppuRead cfg low.2 p (BitVec.ofNat 14 (pattern sp + 8))
      let b := if sp.attr.getLsbD 6 then px - sp.x.toNat else 7 - (px - sp.x.toNat)
      if sp.x.toNat ≤ px ∧ px ≤ sp.x.toNat + 7 then
        (2 * (high.1.toNat / 2 ^ b % 2) + low.1.toNat / 2 ^ b % 2, high.2)
      else (0, d)
    let dot := fun (value : Nat) (sp : Sprite) =>
      SpriteDot.mk (BitVec.ofNat 2 value) (BitVec.ofNat 2 sp.attr.toNat) (sp.attr.getLsbD 5) (decide (sp.index = 0))
    let off := p.mask.getLsbD 4 = false ∨ (px < 8 ∧ p.mask.getLsbD 2 = false)
    (off ∨ p.lineSprites = [] → spritePixel cfg c p px s = (⟨0, 0, false, false⟩, c)) ∧
    (∀ sp rest, ¬ off → p.lineSprites = sp :: rest → inRange sp →
      spritePixel cfg c p px s =
        if (fetched c sp).1 = 0 then spritePixel cfg (fetched c sp).2 { p with lineSprites := rest } px s
        else (dot (fetched c sp).1 sp, (fetched c sp).2)) ∧
    (¬ off → (∀ sp ∈ p.lineSprites, inRange sp) → c.mapper = .noBankSwitching →
      spritePixel cfg c p px s =
        (match p.lineSprites.find? fun sp => decide ((fetched c sp).1 ≠ 0) with
          | none => ⟨0, 0, false, false⟩
          | some sp => dot (fetched c sp).1 sp, c))

/-- R340, R343: a pixel with rendering on: which of background and sprite shows, the colour from the palette with
greyscale, the one cell written, and the sprite-0 hit; with rendering off, the backdrop. The sprites' fetches follow the
background's. -/
def Obligations.PixelComposition : Prop :=
  ∀ (cfg : Params) (c : Cart) (p : Ppu) (px s : Nat),
    let bg := bgPixel cfg c p px
    let dot := spritePixel cfg bg.2 p px s
    let sp := dot.1
    let on := p.mask.getLsbD 3 || p.mask.getLsbD 4
    let sprite := decide (sp.pix ≠ 0 ∧ (bg.1.pix = 0 ∨ sp.behind = false))
    let idx := if on = false then 0 else if sprite then 16 + 4 * sp.pal.toNat + sp.pix.toNat
      else if bg.1.pix = 0 then 0 else 4 * bg.1.pal.toNat + bg.1.pix.toNat
    let entry := if idx % 4 = 0 then idx % 16 else idx
    let stored := (Memory.read p.pal entry).toNat % 64
    let colour := if p.mask.getLsbD 0 then stored / 16 % 4 * 16 else stored
    p.renderPixel cfg c px s =
      ({ p with
          sprite0Hit := p.sprite0Hit ||
            decide (on = true ∧ bg.1.pix ≠ 0 ∧ sp.pix ≠ 0 ∧ px ≠ 255 ∧ sp.isZero = true)
          back := Memory.write p.back (256 * s + px) (BitVec.ofNat 6 colour) }, dot.2)

/-! ## Reset and the system step -/

/-- R380: reset, field by field (R50): the cleared parts, the registers (SP and P by the parameters `RESET_SP` and
`RESET_P`), PC from the vector by two bus reads, 7 cycles and 21 dots; what is kept: the buttons, the parameters and the
cartridge, its RAM included; of a cartridge with another mapper the bank state and the rest of its own state are the
model's free values (log entry 2). R381: power-on is the same, with the launch's cartridge and parameters and CHR RAM zero
(R364; another mapper's too, log entry 2). -/
def Obligations.ResetClearsAndKeeps : Prop :=
  (∀ (cfg : Params) (c : Cart),
    let t := launch cfg c
    t = hostReset { State.reset with params := cfg, cart := c.atPowerOn } ∧ t.params = cfg ∧
    (∀ q, c = .plain q →
      t.cart = .plain { q with chr := if q.chrIsRam then [] else q.chr } ∧ (q.launchable → t.cart = c)) ∧
    (∀ q, c = .other q → c.atPowerOn =
      .other { q with own := { q.own with chrRam := List.replicate q.own.chrRam.length 0 } })) ∧
  ∀ s : State,
    let t := hostReset s
    let low := memRead 0xFFFC { s with cart := s.cart.afterReset }
    let high := memRead 0xFFFD low.2
    t.cpu = ⟨0, 0, 0, s.params.resetSP, w16 high.1 low.1, s.params.resetP, false, false, none, 7⟩ ∧
    t.ram = [] ∧ t.inputs = s.inputs ∧ t.params = s.params ∧
    t.cart = high.2.cart ∧ (s.plainCart → t.cart = s.cart) ∧
    (∀ q, s.cart = .other q → ∃ b r, s.cart.afterReset = .other { q with bank := b, own := { q.own with rest := r } }) ∧
    t.pad1 = ⟨s.pad1.buttons, 0, 0, false⟩ ∧ t.pad2 = ⟨s.pad2.buttons, 0, 0, false⟩ ∧
    t.ppu = ⟨0, 21, 0, [], [], [], 0, 0, 0, false, 0, 0, false, false, false, 0, 0, [], false, [], []⟩

/-- R285: a system step: none for a halted machine; else the boundary's inputs (buttons, then the release, then the
level), the CPU step, three dots for each cycle it cost, and the NMI request moved to the CPU; a fault runs no dot. And
which system step a step of the machine is, the model's choice of log entry 3: the oldest waiting boundary's, or with
nothing waiting the quiet one's (buttons as they are, the IRQ line low); a waiting reset (R290, R382) is a step of its
own. -/
def Obligations.SystemStepOrder : Prop :=
  ∀ (env : EnvInput) (s : State),
    (s.inputs = [] → step s = systemStep ⟨s.pad1.buttons, s.pad2.buttons, false, false⟩ s) ∧
    (∀ later, s.inputs = .boundary env :: later → step s = systemStep env { s with inputs := later }) ∧
    (∀ later, s.inputs = .reset :: later → step s = .next (hostReset { s with inputs := later })) ∧
    (∀ r, s.cpu.halted = some r → systemStep env s = .fault (.halted r.addr r.opcode)) ∧
    (s.cpu.halted = none →
      let b : State :=
        { s with
          pad1 := { s.pad1 with buttons := env.buttons1 }
          pad2 := { s.pad2 with buttons := env.buttons2 }
          cpu := { s.cpu with
            irqPending := env.irqLevel || (!env.irqRelease && s.cpu.irqPending) } }
      (∀ t, cpuStep b = .next t →
        let q := t.ppu.ticks t.params t.cart (3 * (t.cpu.cycles - s.cpu.cycles))
        systemStep env s = .next
          { t with
            ppu := { q.1 with nmiRequest := false }
            cart := q.2
            cpu := { t.cpu with nmiPending := t.cpu.nmiPending || q.1.nmiRequest } }) ∧
      (∀ f, cpuStep b = .fault f → systemStep env s = .fault f))

/-! ## Invariants -/

/-- The state right after reset is sound in every sense below, and is the launch of the reset cartridge (which is the
model's choice, log entry 1) with the parameters at R8's values. -/
def Obligations.ResetStateIsSound : Prop :=
  State.reset.MemoriesSound ∧ State.reset.RangesSound ∧ State.reset.StatusSound ∧ State.reset.Lockstep ∧
  State.reset.RequestMoved ∧ State.reset = launch .default (.plain .empty)

/-- Every step, with any cartridge, keeps every memory canonical, in its size, and palette entries at 6 bits, and never
changes the mapper. The sizes are the rules' (R46, R47, R360) but for one that is the model's: `NT` is bounded by 4,096
cells in every mirroring mode (log entry 7; R47 gives 2,048 but for four-screen). That no operation of another mapper's
cartridge changes which mapper it is, is log entry 2's (DEDUCED). -/
def Obligations.StepKeepsMemoriesSound : Prop :=
  ∀ s t : State, s.MemoriesSound → StepsTo s t → t.MemoriesSound ∧ t.cart.mapper = s.cart.mapper

/-- Every step keeps the PPU's position and sprite list and the controllers' indices in their ranges, and the lockstep
of dots and cycles (R286). -/
def Obligations.StepKeepsRangesAndLockstep : Prop :=
  ∀ s t : State, s.RangesSound → StepsTo s t → t.RangesSound ∧ (s.Lockstep → t.Lockstep)

/-- Every step keeps the stored bits 5 and 4 of P at 1 and 0 (R31; `RESET_P` has them too, log entry 8), leaves no NMI
request waiting in the PPU (R261, R285), and keeps the parameters (R8). -/
def Obligations.StepKeepsStoredStatusBits : Prop :=
  ∀ s t : State, StepsTo s t → (s.StatusSound → t.StatusSound) ∧ t.RequestMoved ∧ t.params = s.params

/-! ## One tick of the PPU -/

/-- R301, R302, R303: one tick, whole: the position (`s`, `d`) it enters, with the count and the picture of a completed
frame; the flags at (241, 1) and at the pre-render clear; then the pixel `d - 1` of a visible line, from `v` and the sprite
list as they were; then the scroll events where rendering is enabled on a visible line or line 261; then the sprites of the
next line at dot 257. Nothing else; of the cartridge, what the pixel's fetches leave. -/
def Obligations.TickPerformsItsEvents : Prop :=
  ∀ (cfg : Params) (c : Cart) (p : Ppu),
    let s := if p.dot < 340 then p.scanline else if p.scanline < 261 then p.scanline + 1 else 0
    let d := if p.dot < 340 then p.dot + 1 else 0
    let completed := decide (340 ≤ p.dot ∧ 261 ≤ p.scanline)
    let starts := decide (s = 241 ∧ d = 1)
    let clears := decide (s = 261 ∧ d = cfg.prerenderClearDot.val)
    let on := p.mask.getLsbD 3 || p.mask.getLsbD 4
    let entered : Ppu :=
      { p with
        scanline := s
        dot := d
        frame := if completed then p.frame + 1 else p.frame
        front := if completed then p.back else p.front
        vblank := starts || (p.vblank && !clears)
        nmiRequest := p.nmiRequest || (starts && p.ctrl.getLsbD 7)
        sprite0Hit := p.sprite0Hit && !clears
        spriteOverflow := p.spriteOverflow && !clears }
    let drawn := if s ≤ 239 ∧ 1 ≤ d ∧ d ≤ 256 then entered.renderPixel cfg c (d - 1) s else (entered, c)
    p.tick cfg c =
      ({ drawn.1 with
        v :=
          if on = true ∧ (s ≤ 239 ∨ s = 261) then
            if d = 256 then incrementY p.v
            else if d = 257 then copyX p.v p.t
            else if s = 261 ∧ 280 ≤ d ∧ d ≤ 304 then copyY p.v p.t
            else p.v
          else p.v
        lineSprites :=
          if d = 257 then if s ≤ 239 ∧ on = true then (p.evaluateSprites s).lineSprites else [] else p.lineSprites
        spriteOverflow :=
          if d = 257 ∧ s ≤ 239 ∧ on = true then (p.evaluateSprites s).spriteOverflow else drawn.1.spriteOverflow }, drawn.2)
end

