-- ==== Sys2Proof/Laws/Bits.lean ====
section
/-! SUPPORT. The laws of the bit-field and byte-order helpers. -/

namespace Sys2Proof.Machine

/-- `setField` replaces exactly the bits of its field. -/
theorem getLsbD_setField {n k : Nat} (v : BitVec n) (at0 : Nat) (f : BitVec k) (i : Nat) (hi : i < n) :
    (setField v at0 f).getLsbD i = if at0 ≤ i ∧ i < at0 + k then f.getLsbD (i - at0) else v.getLsbD i := by
  simp only [setField, BitVec.getLsbD_or, BitVec.getLsbD_and, BitVec.getLsbD_not, BitVec.getLsbD_shiftLeft,
    BitVec.getLsbD_setWidth, BitVec.getLsbD_allOnes, hi, decide_true, Bool.true_and]
  by_cases h1 : at0 ≤ i
  · by_cases h2 : i - at0 < k
    · have : i - at0 < n := by omega
      have h3 : ¬ i < at0 := by omega
      have h4 : i < at0 + k := by omega
      simp [h1, h2, h3, h4, this]
    · have h3 : ¬ i < at0 := by omega
      have h4 : ¬ i < at0 + k := by omega
      simp [h1, h3, h4, h2, BitVec.getLsbD_of_ge f (i - at0) (by omega)]
  · simp [h1, show i < at0 by omega]

theorem toNat_hi (w : Word) : (hi w).toNat = w.toNat / 256 := by
  have := w.isLt
  simp only [hi, BitVec.extractLsb'_toNat, Nat.shiftRight_eq_div_pow]
  omega

theorem toNat_lo (w : Word) : (lo w).toNat = w.toNat % 256 := by
  simp [lo]

theorem toNat_w16 (h l : Byte) : (w16 h l).toNat = h.toNat * 256 + l.toNat := by
  have := l.isLt
  simp only [w16, BitVec.toNat_append]
  rw [← Nat.shiftLeft_add_eq_or_of_lt (by omega), Nat.shiftLeft_eq]

theorem toNat_zext16 (v : Byte) : (zext16 v).toNat = v.toNat := by
  have := v.isLt
  simp only [zext16, BitVec.toNat_setWidth]
  omega

@[simp] theorem hi_w16 (h l : Byte) : hi (w16 h l) = h := by
  apply BitVec.eq_of_toNat_eq
  have := l.isLt
  rw [toNat_hi, toNat_w16]
  omega

@[simp] theorem lo_w16 (h l : Byte) : lo (w16 h l) = l := by
  apply BitVec.eq_of_toNat_eq
  have := l.isLt
  rw [toNat_lo, toNat_w16]
  omega

@[simp] theorem w16_hi_lo (w : Word) : w16 (hi w) (lo w) = w := by
  apply BitVec.eq_of_toNat_eq
  rw [toNat_w16, toNat_hi, toNat_lo]
  omega

end Sys2Proof.Machine
end

