-- ==== Sys2Proof/Laws/Flags.lean ====
section
/-! SUPPORT. The laws of the flags of `P`: what `Flag.put`, `setZN` and the status bytes do to each bit. -/

namespace Sys2Proof.Machine

/-- Writing a flag replaces its bit and no other. -/
theorem getLsbD_put (f : Flag) (v : Bool) (p : Byte) (i : Nat) (hi : i < 8) :
    (f.put v p).getLsbD i = if i = f.bit then v else p.getLsbD i := by
  rw [Flag.put, getLsbD_setField _ _ _ _ hi]
  by_cases h : i = f.bit
  · subst h; cases v <;> simp
  · rw [if_neg (by omega), if_neg h]

theorem bit_lt (f : Flag) : f.bit < 8 := by cases f <;> decide

theorem bit_injective : Function.Injective Flag.bit := by
  intro f g h
  cases f <;> cases g <;> first | rfl | exact absurd h (by decide)

/-- A flag read after a flag written. -/
@[simp] theorem get_put (f g : Flag) (v : Bool) (p : Byte) : f.get (g.put v p) = if f = g then v else f.get p := by
  rw [Flag.get, getLsbD_put _ _ _ _ (bit_lt f), Flag.get]
  by_cases h : f = g
  · simp [h]
  · rw [if_neg (fun e => h (bit_injective e)), if_neg h]

/-- `SetZN` replaces bits 1 and 7 (R27). -/
theorem getLsbD_setZN (v p : Byte) (i : Nat) (hi : i < 8) :
    (setZN v p).getLsbD i = if i = 7 then v.getLsbD 7 else if i = 1 then decide (v = 0) else p.getLsbD i := by
  rw [setZN, getLsbD_put _ _ _ _ hi, getLsbD_put _ _ _ _ hi]
  rfl

/-- The byte PLP and RTI load (R31): bits 5 and 4 of the old status, the rest of the pulled byte. -/
theorem getLsbD_statusPulled (m p : Byte) (i : Nat) (hi : i < 8) :
    (statusPulled m p).getLsbD i = if i = 5 ∨ i = 4 then p.getLsbD i else m.getLsbD i := by
  rw [statusPulled, BitVec.getLsbD_or, BitVec.getLsbD_and, BitVec.getLsbD_and]
  interval_cases i <;> simp [BitVec.getLsbD, Nat.testBit]

/-- The byte PHP and BRK push (R31). -/
theorem getLsbD_statusPushedByInstruction (p : Byte) (i : Nat) (hi : i < 8) :
    (statusPushedByInstruction p).getLsbD i = if i = 5 ∨ i = 4 then true else p.getLsbD i := by
  rw [statusPushedByInstruction, BitVec.getLsbD_or]
  interval_cases i <;> simp [BitVec.getLsbD, Nat.testBit]

/-- The byte NMI and IRQ entry push (R31). -/
theorem getLsbD_statusPushedByInterrupt (p : Byte) (i : Nat) (hi : i < 8) :
    (statusPushedByInterrupt p).getLsbD i = if i = 5 then true else if i = 4 then false else p.getLsbD i := by
  rw [statusPushedByInterrupt, BitVec.getLsbD_or, BitVec.getLsbD_and]
  interval_cases i <;> simp [BitVec.getLsbD, Nat.testBit]

end Sys2Proof.Machine
end

