-- ==== Sys2Proof/Laws/BitsChanged.lean ====
section
/-! SUPPORT. `BitsChanged` and the flag operations: the status byte each of them leaves, bit by bit. -/

namespace Sys2Proof.Machine

/-- To show a status byte's changes, compare its eight bits. -/
theorem bitsChanged_of_bits {n : Nat} {p p' : BitVec n} {l : List (Nat × Bool)}
    (h : ∀ i < n, p'.getLsbD i = (l.lookup i).getD (p.getLsbD i))
    (hl : ∀ c ∈ l, c.1 < n ∧ l.lookup c.1 = some c.2) : BitsChanged p p' l := by
  refine ⟨fun c hc => ?_, fun k hk => ?_⟩
  · rw [h _ (hl c hc).1, (hl c hc).2]
    rfl
  · by_cases hn : k < n
    · rw [h k hn]
      have : l.lookup k = none := by
        clear h hl
        induction l with
        | nil => rfl
        | cons c l ih =>
          have hc := hk c (by simp)
          rw [List.lookup_cons, show (k == c.1) = false by simpa using fun e => hc e.symm]
          exact ih fun d hd => hk d (by simp [hd])
      rw [this]
      rfl
    · rw [BitVec.getLsbD_of_ge _ _ (by omega), BitVec.getLsbD_of_ge _ _ (by omega)]

theorem bitsChanged_put (f : Flag) (v : Bool) (p : Byte) : BitsChanged p (f.put v p) [(f.bit, v)] := by
  apply bitsChanged_of_bits
  · intro i hi
    rw [getLsbD_put _ _ _ _ hi]
    by_cases h : i = f.bit <;> simp [List.lookup_cons, h, beq_eq_false_iff_ne.2]
  · simp [bit_lt, List.lookup]

theorem decide_toNat_eq_zero (v : Byte) : decide (v.toNat = 0) = decide (v = 0) :=
  decide_eq_decide.2 ⟨fun h => BitVec.eq_of_toNat_eq h, fun h => by rw [h]; rfl⟩

theorem getLsbD_seven (v : Byte) : v.getLsbD 7 = decide (128 ≤ v.toNat) := by
  have : v.msb = v.getLsbD 7 := by simp [BitVec.msb_eq_getLsbD_last]
  rw [← this, BitVec.msb_eq_decide]

theorem bitsChanged_setZN (v p : Byte) : BitsChanged p (setZN v p) (zeroNegative v) := by
  apply bitsChanged_of_bits
  · intro i hi
    rw [getLsbD_setZN _ _ _ hi, zeroNegative, decide_toNat_eq_zero, ← getLsbD_seven]
    interval_cases i <;> simp [List.lookup]
  · simp [zeroNegative, List.lookup]

/-- Changes one after another, at different bits. -/
theorem BitsChanged.append {n : Nat} {p q r : BitVec n} {l m : List (Nat × Bool)} (h : BitsChanged p q l)
    (k : BitsChanged q r m) (d : ∀ c ∈ l, ∀ e ∈ m, e.1 ≠ c.1) : BitsChanged p r (l ++ m) := by
  refine ⟨fun c hc => ?_, fun i hi => ?_⟩
  · rcases List.mem_append.1 hc with hc | hc
    · rw [k.2 _ (d c hc), h.1 c hc]
    · exact k.1 c hc
  · rw [k.2 i fun c hc => hi c (by simp [hc]), h.2 i fun c hc => hi c (by simp [hc])]

theorem bitsChanged_statusPulled (m p : Byte) :
    BitsChanged m (statusPulled m p) [(5, p.getLsbD 5), (4, p.getLsbD 4)] := by
  apply bitsChanged_of_bits
  · intro i hi
    rw [getLsbD_statusPulled _ _ _ hi]
    interval_cases i <;> simp [List.lookup]
  · simp [List.lookup]

theorem bitsChanged_statusPushedByInstruction (p : Byte) :
    BitsChanged p (statusPushedByInstruction p) [(5, true), (4, true)] := by
  apply bitsChanged_of_bits
  · intro i hi
    rw [getLsbD_statusPushedByInstruction _ _ hi]
    interval_cases i <;> simp [List.lookup]
  · simp [List.lookup]

theorem bitsChanged_statusPushedByInterrupt (p : Byte) :
    BitsChanged p (statusPushedByInterrupt p) [(5, true), (4, false)] := by
  apply bitsChanged_of_bits
  · intro i hi
    rw [getLsbD_statusPushedByInterrupt _ _ hi]
    interval_cases i <;> simp [List.lookup]
  · simp [List.lookup]

end Sys2Proof.Machine
end

