-- ==== Sys2Proof/Laws/Cart.lean ====
section
/-! SUPPORT. The laws of the cartridge: what a read of it can change, and what no operation changes, said once for every
mapper; the no-bank-switching cartridge reads and writes as itself. -/

namespace Sys2Proof.Machine

@[simp] theorem Cart.withOwn_own (c : Cart) : c.withOwn c.own = c := by cases c <;> rfl
@[simp] theorem Cart.withOwn_withOwn (c : Cart) (e e' : OwnState) : (c.withOwn e).withOwn e' = c.withOwn e' := by
  cases c <;> rfl
@[simp] theorem Cart.withOwn_own_withOwn (c : Cart) (e : OwnState) :
    c.withOwn (c.withOwn e).own = c.withOwn e := by cases c <;> rfl
@[simp] theorem Cart.withOwn_plain (p : PlainCart) (e : OwnState) : (Cart.plain p).withOwn e = .plain p := rfl
@[simp] theorem Cart.withOwn_mapper (c : Cart) (e : OwnState) : (c.withOwn e).mapper = c.mapper := by cases c <;> rfl

/-- `c'` is `c` after reads (R80, R361, R366). -/
def CartRead (c c' : Cart) : Prop := c' = c.withOwn c'.own

theorem CartRead.refl (c : Cart) : CartRead c c := c.withOwn_own.symm

theorem CartRead.trans {c d e : Cart} (h : CartRead c d) (k : CartRead d e) : CartRead c e := by
  unfold CartRead at *
  rw [h, Cart.withOwn_withOwn] at k
  exact k

theorem CartRead.mapper {c d : Cart} (h : CartRead c d) : d.mapper = c.mapper := by rw [h, Cart.withOwn_mapper]

/-- Reads change nothing of the no-bank-switching cartridge. -/
theorem CartRead.plain {p : PlainCart} {d : Cart} (h : CartRead (.plain p) d) : d = .plain p := h

theorem Cart.mapper_plain {c : Cart} (h : c.mapper = .noBankSwitching) : ∃ p, c = .plain p := by
  cases c with
  | plain p => exact ⟨p, rfl⟩
  | other o => cases h

theorem CartRead.of_plain {c d : Cart} (h : CartRead c d) (hm : c.mapper = .noBankSwitching) : d = c := by
  obtain ⟨p, rfl⟩ := Cart.mapper_plain hm
  exact h

theorem Cart.readPrg_read (c : Cart) (a : Word) : CartRead c (c.readPrg a).2 := by cases c <;> rfl
theorem Cart.readChr_read (c : Cart) (a : Nat) : CartRead c (c.readChr a).2 := by cases c <;> rfl

@[simp] theorem Cart.readPrg_plain (p : PlainCart) (a : Word) : (Cart.plain p).readPrg a = (p.readPrg a, .plain p) := rfl
@[simp] theorem Cart.readChr_plain (p : PlainCart) (a : Nat) : (Cart.plain p).readChr a = (p.readChr a, .plain p) := rfl

/-! ### No operation changes the mapper -/

@[simp] theorem Cart.writePrg_mapper (c : Cart) (a : Word) (v : Byte) : (c.writePrg a v).mapper = c.mapper := by
  cases c <;> rfl
@[simp] theorem Cart.writeChr_mapper (c : Cart) (a : Nat) (v : Byte) : (c.writeChr a v).mapper = c.mapper := by
  cases c <;> rfl
@[simp] theorem Cart.afterReset_mapper (c : Cart) : c.afterReset.mapper = c.mapper := by cases c <;> rfl

/-! ### Two reads in a row -/

/-- The word at `a`, low byte read first, and the cartridge after both reads (R270: a vector). -/
def Cart.readWord (c : Cart) (a : Word) : Word × Cart :=
  let l := c.readPrg a
  let h := l.2.readPrg (a + 1)
  (w16 h.1 l.1, h.2)

theorem Cart.readWord_read (c : Cart) (a : Word) : CartRead c (c.readWord a).2 :=
  (c.readPrg_read a).trans (Cart.readPrg_read _ _)

end Sys2Proof.Machine
end

