-- ==== Sys2Proof/Laws/Decode.lean ====
section
/-! SUPPORT. The opcode map beside the list of illegal bytes and the encoder. -/

namespace Sys2Proof.Laws

/-- The bytes without an entry of the opcode map are the listed illegal ones (R121, R128). -/
theorem opcodeMap_isNone : ∀ op : Byte, (opcodeMap op).isNone = decide (op.toNat ∈ illegalOpcodes) := by decide

/-- The encoder gives every instruction a template builds the opcode byte and the operand bytes of its format. -/
def Encodes (op : Byte) : Template → Prop
  | .f1 i     => encode i = [op]
  | .f2 build => ∀ d, encode (build d) = [op, d]
  | .f3 build => ∀ d16, encode (build d16) = [op, Machine.lo d16, Machine.hi d16]

/-- Every entry of the opcode map encodes back to its own byte. -/
theorem opcodeMap_encodes (op : Byte) (t : Template) (h : opcodeMap op = some t) : Encodes op t := by
  have key : ∀ n : Fin 256, ∀ t, opcodeMap (BitVec.ofFin n) = some t → Encodes (BitVec.ofFin n) t := by
    intro n t h
    fin_cases n <;> first | (cases h; rfl) | (cases h; exact fun _ => rfl) | cases h
  exact key op.toFin t h

end Sys2Proof.Laws
end

