-- ==== Sys2Proof/Laws/Memory.lean ====
section
/-! SUPPORT. The laws of memories: read after write, the canonical form, ranges, and that canonical memories are equal
when they read the same. -/

namespace Sys2Proof.Machine

variable {w : Nat}

@[simp] theorem Memory.read_nil (a : Nat) : Memory.read ([] : List (Nat × BitVec w)) a = 0 := rfl

theorem Memory.read_cons (c : Nat × BitVec w) (m : List (Nat × BitVec w)) (a : Nat) :
    Memory.read (c :: m) a = if c.1 = a then c.2 else Memory.read m a := rfl

/-- A canonical memory whose first cell lies above `a` reads blank at `a`. -/
theorem Memory.read_of_lt {m : List (Nat × BitVec w)} {a : Nat} (h : ∀ c ∈ m, a < c.1) : Memory.read m a = 0 := by
  induction m with
  | nil => rfl
  | cons c m ih =>
    have hc := h c (by simp)
    rw [Memory.read_cons, if_neg (by omega), ih (fun d hd => h d (by simp [hd]))]

theorem Memory.wf_nil : Memory.wf ([] : List (Nat × BitVec w)) := by simp [Memory.wf]

theorem Memory.wf_cons {c : Nat × BitVec w} {m : List (Nat × BitVec w)} :
    Memory.wf (c :: m) ↔ (∀ d ∈ m, c.1 < d.1) ∧ c.2 ≠ 0 ∧ Memory.wf m := by
  simp only [Memory.wf, List.pairwise_cons, List.forall_mem_cons, Memory.blank]
  tauto

/-- Every cell of a written memory is a cell of the old one or the written cell. -/
theorem Memory.mem_write {m : List (Nat × BitVec w)} {a : Nat} {v : BitVec w} {c : Nat × BitVec w}
    (h : c ∈ Memory.write m a v) : c ∈ m ∨ (c = (a, v) ∧ v ≠ 0) := by
  induction m with
  | nil =>
    simp only [Memory.write, Memory.blank] at h
    split at h <;> simp_all
  | cons d m ih =>
    obtain ⟨k, u⟩ := d
    simp only [Memory.write, Memory.blank] at h
    split at h
    · rcases List.mem_cons.1 h with h | h
      · exact .inl (by simp [h])
      · rcases ih h with h | h
        · exact .inl (by simp [h])
        · exact .inr h
    · split at h <;> split at h <;> simp_all <;> tauto

/-- A write keeps the canonical form. -/
theorem Memory.wf_write {m : List (Nat × BitVec w)} (h : Memory.wf m) (a : Nat) (v : BitVec w) :
    Memory.wf (Memory.write m a v) := by
  induction m with
  | nil =>
    simp only [Memory.write, Memory.blank]
    split
    · exact Memory.wf_nil
    · rename_i hv
      exact ⟨by simp, by simpa using hv⟩
  | cons d m ih =>
    obtain ⟨k, u⟩ := d
    obtain ⟨hlt, hu, hm⟩ := Memory.wf_cons.1 h
    simp only [Memory.write, Memory.blank]
    split
    · refine Memory.wf_cons.2 ⟨fun c hc => ?_, hu, ih hm⟩
      rcases Memory.mem_write hc with hc | ⟨rfl, -⟩
      · exact hlt c hc
      · assumption
    · split
      · split
        · exact hm
        · refine Memory.wf_cons.2 ⟨fun c hc => ?_, by assumption, hm⟩
          have := hlt c hc
          simp_all
      · split
        · exact h
        · refine Memory.wf_cons.2 ⟨fun c hc => ?_, by assumption, h⟩
          rcases List.mem_cons.1 hc with rfl | hc
          · simp; omega
          · have := hlt c hc
            simp_all; omega

/-- A write inside a range keeps the memory in the range. -/
theorem Memory.below_write {m : List (Nat × BitVec w)} {n : Nat} (h : Memory.below n m) {a : Nat} (ha : a < n)
    (v : BitVec w) : Memory.below n (Memory.write m a v) := by
  intro c hc
  rcases Memory.mem_write hc with hc | ⟨rfl, -⟩
  · exact h c hc
  · exact ha

/-- Reading a written memory: the written value at the written address, the old value elsewhere. -/
theorem Memory.read_write {m : List (Nat × BitVec w)} (h : Memory.wf m) (a : Nat) (v : BitVec w) (b : Nat) :
    Memory.read (Memory.write m a v) b = if b = a then v else Memory.read m b := by
  induction m with
  | nil =>
    simp only [Memory.write, Memory.blank]
    split <;> by_cases hb : b = a
    · simp_all
    · simp_all
    · simp [hb, Memory.read_cons]
    · simp [hb, Memory.read_cons, Ne.symm hb]
  | cons d m ih =>
    obtain ⟨k, u⟩ := d
    obtain ⟨hlt, hu, hm⟩ := Memory.wf_cons.1 h
    have hbelow : ∀ b ≤ k, Memory.read m b = 0 := fun b hb =>
      Memory.read_of_lt fun c hc => lt_of_le_of_lt hb (hlt c hc)
    simp only [Memory.write, Memory.blank]
    split
    · simp only [Memory.read_cons, ih hm]
      by_cases h1 : k = b
      · rw [if_pos h1, if_pos h1, if_neg (by omega)]
      · rw [if_neg h1, if_neg h1]
    · rename_i hka
      split
      · subst k
        split
        · rename_i hv
          by_cases hb : b = a
          · simp [hb, hv, hbelow a le_rfl]
          · simp [hb, Memory.read_cons, Ne.symm hb]
        · by_cases hb : b = a
          · simp [hb, Memory.read_cons]
          · simp [hb, Memory.read_cons, Ne.symm hb]
      · rename_i hne
        split
        · rename_i hv
          by_cases hb : b = a
          · subst b
            simp [Memory.read_cons, hne, hv, hbelow a (by omega)]
          · simp [hb]
        · by_cases hb : b = a
          · simp [hb, Memory.read_cons]
          · simp [hb, Memory.read_cons, Ne.symm hb]

theorem Memory.read_write_same {m : List (Nat × BitVec w)} (h : Memory.wf m) (a : Nat) (v : BitVec w) :
    Memory.read (Memory.write m a v) a = v := by simp [Memory.read_write h]

/-- A write leaves every other address alone, canonical or not. -/
theorem Memory.read_write_other (m : List (Nat × BitVec w)) {a b : Nat} (v : BitVec w) (hb : b ≠ a) :
    Memory.read (Memory.write m a v) b = Memory.read m b := by
  induction m with
  | nil =>
    simp only [Memory.write, Memory.blank]
    split
    · rfl
    · rw [Memory.read_cons, if_neg (Ne.symm hb)]
  | cons d m ih =>
    obtain ⟨k, u⟩ := d
    simp only [Memory.write, Memory.blank]
    split
    · rw [Memory.read_cons, Memory.read_cons, ih]
    · split
      · subst k
        split <;> simp [Memory.read_cons, Ne.symm hb]
      · split <;> simp [Memory.read_cons, Ne.symm hb]

/-- A property of every listed value is kept by a write of a value that has it. -/
theorem Memory.values_write {m : List (Nat × BitVec w)} {p : BitVec w → Prop} (h : ∀ c ∈ m, p c.2) {a : Nat}
    {v : BitVec w} (hv : p v) : ∀ c ∈ Memory.write m a v, p c.2 := by
  intro c hc
  rcases Memory.mem_write hc with hc | ⟨rfl, -⟩
  · exact h c hc
  · exact hv

/-- Equal memories are equal data: canonical memories that read the same everywhere are the same list. -/
theorem Memory.ext {m n : List (Nat × BitVec w)} (hm : Memory.wf m) (hn : Memory.wf n)
    (h : ∀ a, Memory.read m a = Memory.read n a) : m = n := by
  induction m generalizing n with
  | nil =>
    cases n with
    | nil => rfl
    | cons d n =>
      have := h d.1
      simp [Memory.read_cons] at this
      exact absurd this.symm (Memory.wf_cons.1 hn).2.1
  | cons c m ih =>
    obtain ⟨hc1, hc2, hc3⟩ := Memory.wf_cons.1 hm
    cases n with
    | nil =>
      have := h c.1
      simp [Memory.read_cons] at this
      exact absurd this hc2
    | cons d n =>
      obtain ⟨hd1, hd2, hd3⟩ := Memory.wf_cons.1 hn
      have key : c.1 = d.1 := by
        rcases lt_trichotomy c.1 d.1 with hlt | heq | hlt
        · have := h c.1
          rw [Memory.read_cons, if_pos rfl, Memory.read_of_lt (m := d :: n)] at this
          · exact absurd this hc2
          · intro e he
            rcases List.mem_cons.1 he with rfl | he
            · exact hlt
            · exact hlt.trans (hd1 e he)
        · exact heq
        · have := h d.1
          rw [Memory.read_cons (c := d), if_pos rfl, Memory.read_of_lt (m := c :: m)] at this
          · exact absurd this.symm hd2
          · intro e he
            rcases List.mem_cons.1 he with rfl | he
            · exact hlt
            · exact hlt.trans (hc1 e he)
      have val : c.2 = d.2 := by
        have := h c.1
        rwa [Memory.read_cons, Memory.read_cons, if_pos rfl, if_pos key.symm] at this
      have hcd : c = d := Prod.ext key val
      subst hcd
      congr 1
      refine ih hc3 hd3 fun a => ?_
      by_cases ha : c.1 = a
      · subst ha
        rw [Memory.read_of_lt hc1, Memory.read_of_lt hd1]
      · have := h a
        rwa [Memory.read_cons, Memory.read_cons, if_neg ha, if_neg ha] at this

end Sys2Proof.Machine
end

