-- ==== Sys2Proof/Laws/Ppu.lean ====
section
/-! SUPPORT. The laws of one PPU tick: which fields each of its parts can write, what its fetches leave of the
cartridge, where the position goes, and how many sprites a line can have. -/

namespace Sys2Proof.Machine

/-! ### What each part of a tick writes -/

theorem Ppu.advancePosition_writes (p : Ppu) :
    p.advancePosition = { p with
      scanline := p.advancePosition.scanline, dot := p.advancePosition.dot, frame := p.advancePosition.frame
      front := p.advancePosition.front } := by
  unfold Ppu.advancePosition
  split
  · rfl
  · split <;> rfl

theorem Ppu.tickFlags_writes (cfg : Params) (p : Ppu) :
    p.tickFlags cfg = { p with
      vblank := (p.tickFlags cfg).vblank, nmiRequest := (p.tickFlags cfg).nmiRequest
      sprite0Hit := (p.tickFlags cfg).sprite0Hit
      spriteOverflow := (p.tickFlags cfg).spriteOverflow } := by
  unfold Ppu.tickFlags
  split
  · rfl
  · split <;> rfl

theorem Ppu.renderPixel_writes (cfg : Params) (c : Cart) (p : Ppu) (px s : Nat) :
    (p.renderPixel cfg c px s).1 = { p with
      sprite0Hit := (p.renderPixel cfg c px s).1.sprite0Hit, back := (p.renderPixel cfg c px s).1.back } := by
  unfold Ppu.renderPixel
  split <;> rfl

theorem Ppu.tickPixel_writes (cfg : Params) (c : Cart) (p : Ppu) :
    (p.tickPixel cfg c).1 =
      { p with sprite0Hit := (p.tickPixel cfg c).1.sprite0Hit, back := (p.tickPixel cfg c).1.back } := by
  unfold Ppu.tickPixel
  split
  · exact Ppu.renderPixel_writes cfg c p _ _
  · rfl

theorem Ppu.tickScroll_writes (p : Ppu) : p.tickScroll = { p with v := p.tickScroll.v } := by
  unfold Ppu.tickScroll
  split <;> rfl

theorem Ppu.tickSprites_writes (p : Ppu) :
    p.tickSprites = { p with
      lineSprites := p.tickSprites.lineSprites, spriteOverflow := p.tickSprites.spriteOverflow } := by
  unfold Ppu.tickSprites
  split
  · split <;> rfl
  · rfl

/-- What no part of a tick writes. -/
structure TickKept (p q : Ppu) : Prop where
  nt         : q.nt = p.nt
  pal        : q.pal = p.pal
  oam        : q.oam = p.oam
  t          : q.t = p.t
  x          : q.x = p.x
  w          : q.w = p.w
  ctrl       : q.ctrl = p.ctrl
  mask       : q.mask = p.mask
  oamAddr    : q.oamAddr = p.oamAddr
  readBuffer : q.readBuffer = p.readBuffer

theorem TickKept.trans {p q r : Ppu} (h : TickKept p q) (k : TickKept q r) : TickKept p r :=
  ⟨k.1.trans h.1, k.2.trans h.2, k.3.trans h.3, k.4.trans h.4, k.5.trans h.5, k.6.trans h.6, k.7.trans h.7,
    k.8.trans h.8, k.9.trans h.9, k.10.trans h.10⟩

/-- What the pixel, the scroll and the sprites of a tick do not write: the position, the completed picture, vblank and
the NMI request. -/
structure PlaceKept (p q : Ppu) : Prop where
  scanline   : q.scanline = p.scanline
  dot        : q.dot = p.dot
  frame      : q.frame = p.frame
  front      : q.front = p.front
  vblank     : q.vblank = p.vblank
  nmiRequest : q.nmiRequest = p.nmiRequest

theorem PlaceKept.trans {p q r : Ppu} (h : PlaceKept p q) (k : PlaceKept q r) : PlaceKept p r :=
  ⟨k.1.trans h.1, k.2.trans h.2, k.3.trans h.3, k.4.trans h.4, k.5.trans h.5, k.6.trans h.6⟩

theorem Ppu.advancePosition_kept (p : Ppu) : TickKept p p.advancePosition := by
  rw [Ppu.advancePosition_writes]
  constructor <;> rfl

theorem Ppu.tickFlags_kept (cfg : Params) (p : Ppu) : TickKept p (p.tickFlags cfg) := by
  rw [Ppu.tickFlags_writes]
  constructor <;> rfl

theorem Ppu.tickPixel_kept (cfg : Params) (c : Cart) (p : Ppu) :
    TickKept p (p.tickPixel cfg c).1 ∧ PlaceKept p (p.tickPixel cfg c).1 := by
  rw [Ppu.tickPixel_writes]
  constructor <;> constructor <;> rfl

theorem Ppu.tickScroll_kept (p : Ppu) : TickKept p p.tickScroll ∧ PlaceKept p p.tickScroll := by
  rw [Ppu.tickScroll_writes]
  constructor <;> constructor <;> rfl

theorem Ppu.tickSprites_kept (p : Ppu) : TickKept p p.tickSprites ∧ PlaceKept p p.tickSprites := by
  rw [Ppu.tickSprites_writes]
  constructor <;> constructor <;> rfl

theorem Ppu.tick_kept (cfg : Params) (c : Cart) (p : Ppu) : TickKept p (p.tick cfg c).1 :=
  ((((Ppu.advancePosition_kept p).trans (Ppu.tickFlags_kept cfg _)).trans (Ppu.tickPixel_kept cfg c _).1).trans
    (Ppu.tickScroll_kept _).1).trans (Ppu.tickSprites_kept _).1

theorem Ppu.tick_place (cfg : Params) (c : Cart) (p : Ppu) :
    PlaceKept (p.advancePosition.tickFlags cfg) (p.tick cfg c).1 :=
  ((Ppu.tickPixel_kept cfg c _).2.trans (Ppu.tickScroll_kept _).2).trans (Ppu.tickSprites_kept _).2

@[simp] theorem Ppu.tickFlags_scanline (cfg : Params) (p : Ppu) : (p.tickFlags cfg).scanline = p.scanline := by
  rw [Ppu.tickFlags_writes]
@[simp] theorem Ppu.tickFlags_dot (cfg : Params) (p : Ppu) : (p.tickFlags cfg).dot = p.dot := by rw [Ppu.tickFlags_writes]
@[simp] theorem Ppu.tickFlags_frame (cfg : Params) (p : Ppu) : (p.tickFlags cfg).frame = p.frame := by rw [Ppu.tickFlags_writes]
@[simp] theorem Ppu.tickFlags_front (cfg : Params) (p : Ppu) : (p.tickFlags cfg).front = p.front := by rw [Ppu.tickFlags_writes]
@[simp] theorem Ppu.tickFlags_back (cfg : Params) (p : Ppu) : (p.tickFlags cfg).back = p.back := by rw [Ppu.tickFlags_writes]
@[simp] theorem Ppu.advancePosition_back (p : Ppu) : p.advancePosition.back = p.back := by rw [Ppu.advancePosition_writes]
@[simp] theorem Ppu.advancePosition_ctrl (p : Ppu) : p.advancePosition.ctrl = p.ctrl := by rw [Ppu.advancePosition_writes]
@[simp] theorem Ppu.advancePosition_vblank (p : Ppu) : p.advancePosition.vblank = p.vblank := by
  rw [Ppu.advancePosition_writes]
@[simp] theorem Ppu.advancePosition_nmiRequest (p : Ppu) : p.advancePosition.nmiRequest = p.nmiRequest := by
  rw [Ppu.advancePosition_writes]

section TickFields

variable (cfg : Params) (c : Cart) (p : Ppu)

@[simp] theorem Ppu.tick_nt : (p.tick cfg c).1.nt = p.nt := (Ppu.tick_kept cfg c p).nt
@[simp] theorem Ppu.tick_pal : (p.tick cfg c).1.pal = p.pal := (Ppu.tick_kept cfg c p).pal
@[simp] theorem Ppu.tick_oam : (p.tick cfg c).1.oam = p.oam := (Ppu.tick_kept cfg c p).oam
@[simp] theorem Ppu.tick_ctrl : (p.tick cfg c).1.ctrl = p.ctrl := (Ppu.tick_kept cfg c p).ctrl
@[simp] theorem Ppu.tick_mask : (p.tick cfg c).1.mask = p.mask := (Ppu.tick_kept cfg c p).mask
@[simp] theorem Ppu.tick_scanline : (p.tick cfg c).1.scanline = p.advancePosition.scanline :=
  (Ppu.tick_place cfg c p).scanline.trans (Ppu.tickFlags_scanline cfg _)
@[simp] theorem Ppu.tick_dot : (p.tick cfg c).1.dot = p.advancePosition.dot :=
  (Ppu.tick_place cfg c p).dot.trans (Ppu.tickFlags_dot cfg _)
@[simp] theorem Ppu.tick_frame : (p.tick cfg c).1.frame = p.advancePosition.frame :=
  (Ppu.tick_place cfg c p).frame.trans (Ppu.tickFlags_frame cfg _)
@[simp] theorem Ppu.tick_front : (p.tick cfg c).1.front = p.advancePosition.front :=
  (Ppu.tick_place cfg c p).front.trans (Ppu.tickFlags_front cfg _)
@[simp] theorem Ppu.tick_vblank : (p.tick cfg c).1.vblank = (p.advancePosition.tickFlags cfg).vblank :=
  (Ppu.tick_place cfg c p).vblank
@[simp] theorem Ppu.tick_nmiRequest : (p.tick cfg c).1.nmiRequest = (p.advancePosition.tickFlags cfg).nmiRequest :=
  (Ppu.tick_place cfg c p).nmiRequest
@[simp] theorem Ppu.tick_back : (p.tick cfg c).1.back = ((p.advancePosition.tickFlags cfg).tickPixel cfg c).1.back := by
  rw [Ppu.tick, Ppu.tickSprites_writes, Ppu.tickScroll_writes]

end TickFields

/-- The picture being drawn after a tick: one cell written, at a visible position, or none. -/
theorem Ppu.tickPixel_back (cfg : Params) (c : Cart) (p : Ppu) :
    (p.tickPixel cfg c).1.back = p.back ∨
      (p.scanline ≤ 239 ∧ 1 ≤ p.dot ∧ p.dot ≤ 256 ∧
        ∃ v, (p.tickPixel cfg c).1.back = Memory.write p.back (pixelCell (p.dot - 1) p.scanline) v) := by
  unfold Ppu.tickPixel
  split
  · rename_i h
    refine .inr ⟨h.1, h.2.1, h.2.2, ?_⟩
    unfold Ppu.renderPixel
    split <;> exact ⟨_, rfl⟩
  · exact .inl rfl

/-! ### The position -/

/-- A position in range moves by one dot, and stays in range (R300, R301). -/
theorem Ppu.advancePosition_position (p : Ppu) (hs : p.scanline ≤ 261) (hd : p.dot ≤ 340) :
    p.advancePosition.scanline ≤ 261 ∧ p.advancePosition.dot ≤ 340 ∧
      p.advancePosition.scanline * 341 + p.advancePosition.dot + 89342 * p.advancePosition.frame =
        p.scanline * 341 + p.dot + 89342 * p.frame + 1 := by
  unfold Ppu.advancePosition
  split
  · simp only; omega
  · split <;> simp only <;> omega

theorem Ppu.ticks_succ (cfg : Params) (c : Cart) (n : Nat) (p : Ppu) :
    p.ticks cfg c (n + 1) = (p.tick cfg c).1.ticks cfg (p.tick cfg c).2 n := rfl

/-- What every tick keeps, any number of ticks keep. -/
theorem Ppu.ticks_induct {cfg : Params} {motive : Ppu × Cart → Prop}
    (h : ∀ p c, motive (p, c) → motive (p.tick cfg c)) (n : Nat) {p : Ppu} {c : Cart} (hp : motive (p, c)) :
    motive (p.ticks cfg c n) := by
  induction n generalizing p c with
  | zero => exact hp
  | succ n ih => exact ih (h p c hp)

/-! ### The fetches and the cartridge -/

/-- A PPU read changes the cartridge as a read does. -/
theorem ppuRead_read (cfg : Params) (c : Cart) (p : Ppu) (a : PpuAddr) : CartRead c (ppuRead cfg c p a).2 := by
  unfold ppuRead
  split
  · exact c.readChr_read _
  · split <;> exact .refl c

theorem bgPixel_read (cfg : Params) (c : Cart) (p : Ppu) (px : Nat) : CartRead c (bgPixel cfg c p px).2 := by
  unfold bgPixel
  split
  · exact .refl c
  · exact (((ppuRead_read _ _ _ _).trans (ppuRead_read _ _ _ _)).trans (ppuRead_read _ _ _ _)).trans (ppuRead_read _ _ _ _)

theorem spriteValue_read (cfg : Params) (c : Cart) (p : Ppu) (px s : Nat) (sp : Sprite) :
    CartRead c (spriteValue cfg c p px s sp).2 := by
  unfold spriteValue
  split
  · exact (ppuRead_read _ _ _ _).trans (ppuRead_read _ _ _ _)
  · exact .refl c

theorem firstOpaque_read (cfg : Params) (p : Ppu) (px s : Nat) (l : List Sprite) (c : Cart) :
    CartRead c (firstOpaque cfg p px s c l).2 := by
  induction l generalizing c with
  | nil => exact .refl c
  | cons sp l ih =>
    unfold firstOpaque
    dsimp only
    split
    · exact (spriteValue_read cfg c p px s sp).trans (ih _)
    · exact spriteValue_read cfg c p px s sp

theorem spritePixel_read (cfg : Params) (c : Cart) (p : Ppu) (px s : Nat) : CartRead c (spritePixel cfg c p px s).2 := by
  unfold spritePixel
  split
  · exact .refl c
  · exact firstOpaque_read _ _ _ _ _ _

theorem Ppu.tick_read (cfg : Params) (c : Cart) (p : Ppu) : CartRead c (p.tick cfg c).2 := by
  rw [Ppu.tick, Ppu.tickPixel]
  split
  · rw [Ppu.renderPixel]
    split
    · exact (bgPixel_read _ _ _ _).trans (spritePixel_read _ _ _ _ _)
    · exact .refl c
  · exact .refl c

theorem Ppu.ticks_read (cfg : Params) (c : Cart) (p : Ppu) (n : Nat) : CartRead c (p.ticks cfg c n).2 :=
  Ppu.ticks_induct (motive := fun r => CartRead c r.2) (fun p _ h => h.trans (p.tick_read cfg _)) n (.refl c)

/-! ### The sprite list -/

theorem Ppu.evaluateSprites_length (p : Ppu) (s : Nat) : (p.evaluateSprites s).lineSprites.length ≤ 8 := by
  simp only [Ppu.evaluateSprites, List.length_map, List.length_take]
  omega

theorem Ppu.evaluateSprites_index (p : Ppu) (s : Nat) : ∀ sp ∈ (p.evaluateSprites s).lineSprites, sp.index < 64 := by
  intro sp hsp
  simp only [Ppu.evaluateSprites, List.mem_map] at hsp
  obtain ⟨n, hn, rfl⟩ := hsp
  have := List.mem_of_mem_filter (List.mem_of_mem_take hn)
  exact List.mem_range.1 this

/-- The sprite list after a tick: as before, empty, or freshly selected (R302). -/
theorem Ppu.tick_lineSprites (cfg : Params) (c : Cart) (p : Ppu) :
    (p.tick cfg c).1.lineSprites = p.lineSprites ∨ (p.tick cfg c).1.lineSprites = [] ∨
      ∃ q s, (p.tick cfg c).1.lineSprites = (Ppu.evaluateSprites q s).lineSprites := by
  have h1 : ∀ q : Ppu, q.tickScroll.lineSprites = q.lineSprites := fun q => by rw [Ppu.tickScroll_writes]
  have h2 : ∀ q : Ppu, (q.tickPixel cfg c).1.lineSprites = q.lineSprites := fun q => by rw [Ppu.tickPixel_writes]
  have h3 : ∀ q : Ppu, (q.tickFlags cfg).lineSprites = q.lineSprites := fun q => by rw [Ppu.tickFlags_writes]
  have h4 : p.advancePosition.lineSprites = p.lineSprites := by rw [Ppu.advancePosition_writes]
  rw [Ppu.tick, Ppu.tickSprites]
  split
  · split
    · exact .inr (.inr ⟨_, _, rfl⟩)
    · exact .inr (.inl rfl)
  · exact .inl (by rw [h1, h2, h3, h4])

end Sys2Proof.Machine
end

