-- ==== Sys2Proof/Laws/State.lean ====
section
/-! SUPPORT. What each register setter does to each field of the state: one lemma per field per setter. -/

namespace Sys2Proof.Machine

variable (s : State)

/-! ### `setA` -/

@[simp] theorem State.setA_cpu_a (v : Byte) : (s.setA v).cpu.a = v := rfl
@[simp] theorem State.setA_cpu_x (v : Byte) : (s.setA v).cpu.x = s.cpu.x := rfl
@[simp] theorem State.setA_cpu_y (v : Byte) : (s.setA v).cpu.y = s.cpu.y := rfl
@[simp] theorem State.setA_cpu_sp (v : Byte) : (s.setA v).cpu.sp = s.cpu.sp := rfl
@[simp] theorem State.setA_cpu_pc (v : Byte) : (s.setA v).cpu.pc = s.cpu.pc := rfl
@[simp] theorem State.setA_cpu_p (v : Byte) : (s.setA v).cpu.p = s.cpu.p := rfl
@[simp] theorem State.setA_cpu_nmiPending (v : Byte) : (s.setA v).cpu.nmiPending = s.cpu.nmiPending := rfl
@[simp] theorem State.setA_cpu_irqPending (v : Byte) : (s.setA v).cpu.irqPending = s.cpu.irqPending := rfl
@[simp] theorem State.setA_cpu_halted (v : Byte) : (s.setA v).cpu.halted = s.cpu.halted := rfl
@[simp] theorem State.setA_cpu_cycles (v : Byte) : (s.setA v).cpu.cycles = s.cpu.cycles := rfl
@[simp] theorem State.setA_ram (v : Byte) : (s.setA v).ram = s.ram := rfl
@[simp] theorem State.setA_ppu (v : Byte) : (s.setA v).ppu = s.ppu := rfl
@[simp] theorem State.setA_pad1 (v : Byte) : (s.setA v).pad1 = s.pad1 := rfl
@[simp] theorem State.setA_pad2 (v : Byte) : (s.setA v).pad2 = s.pad2 := rfl
@[simp] theorem State.setA_cart (v : Byte) : (s.setA v).cart = s.cart := rfl
@[simp] theorem State.setA_inputs (v : Byte) : (s.setA v).inputs = s.inputs := rfl
@[simp] theorem State.setA_params (v : Byte) : (s.setA v).params = s.params := rfl

/-! ### `setX` -/

@[simp] theorem State.setX_cpu_a (v : Byte) : (s.setX v).cpu.a = s.cpu.a := rfl
@[simp] theorem State.setX_cpu_x (v : Byte) : (s.setX v).cpu.x = v := rfl
@[simp] theorem State.setX_cpu_y (v : Byte) : (s.setX v).cpu.y = s.cpu.y := rfl
@[simp] theorem State.setX_cpu_sp (v : Byte) : (s.setX v).cpu.sp = s.cpu.sp := rfl
@[simp] theorem State.setX_cpu_pc (v : Byte) : (s.setX v).cpu.pc = s.cpu.pc := rfl
@[simp] theorem State.setX_cpu_p (v : Byte) : (s.setX v).cpu.p = s.cpu.p := rfl
@[simp] theorem State.setX_cpu_nmiPending (v : Byte) : (s.setX v).cpu.nmiPending = s.cpu.nmiPending := rfl
@[simp] theorem State.setX_cpu_irqPending (v : Byte) : (s.setX v).cpu.irqPending = s.cpu.irqPending := rfl
@[simp] theorem State.setX_cpu_halted (v : Byte) : (s.setX v).cpu.halted = s.cpu.halted := rfl
@[simp] theorem State.setX_cpu_cycles (v : Byte) : (s.setX v).cpu.cycles = s.cpu.cycles := rfl
@[simp] theorem State.setX_ram (v : Byte) : (s.setX v).ram = s.ram := rfl
@[simp] theorem State.setX_ppu (v : Byte) : (s.setX v).ppu = s.ppu := rfl
@[simp] theorem State.setX_pad1 (v : Byte) : (s.setX v).pad1 = s.pad1 := rfl
@[simp] theorem State.setX_pad2 (v : Byte) : (s.setX v).pad2 = s.pad2 := rfl
@[simp] theorem State.setX_cart (v : Byte) : (s.setX v).cart = s.cart := rfl
@[simp] theorem State.setX_inputs (v : Byte) : (s.setX v).inputs = s.inputs := rfl
@[simp] theorem State.setX_params (v : Byte) : (s.setX v).params = s.params := rfl

/-! ### `setY` -/

@[simp] theorem State.setY_cpu_a (v : Byte) : (s.setY v).cpu.a = s.cpu.a := rfl
@[simp] theorem State.setY_cpu_x (v : Byte) : (s.setY v).cpu.x = s.cpu.x := rfl
@[simp] theorem State.setY_cpu_y (v : Byte) : (s.setY v).cpu.y = v := rfl
@[simp] theorem State.setY_cpu_sp (v : Byte) : (s.setY v).cpu.sp = s.cpu.sp := rfl
@[simp] theorem State.setY_cpu_pc (v : Byte) : (s.setY v).cpu.pc = s.cpu.pc := rfl
@[simp] theorem State.setY_cpu_p (v : Byte) : (s.setY v).cpu.p = s.cpu.p := rfl
@[simp] theorem State.setY_cpu_nmiPending (v : Byte) : (s.setY v).cpu.nmiPending = s.cpu.nmiPending := rfl
@[simp] theorem State.setY_cpu_irqPending (v : Byte) : (s.setY v).cpu.irqPending = s.cpu.irqPending := rfl
@[simp] theorem State.setY_cpu_halted (v : Byte) : (s.setY v).cpu.halted = s.cpu.halted := rfl
@[simp] theorem State.setY_cpu_cycles (v : Byte) : (s.setY v).cpu.cycles = s.cpu.cycles := rfl
@[simp] theorem State.setY_ram (v : Byte) : (s.setY v).ram = s.ram := rfl
@[simp] theorem State.setY_ppu (v : Byte) : (s.setY v).ppu = s.ppu := rfl
@[simp] theorem State.setY_pad1 (v : Byte) : (s.setY v).pad1 = s.pad1 := rfl
@[simp] theorem State.setY_pad2 (v : Byte) : (s.setY v).pad2 = s.pad2 := rfl
@[simp] theorem State.setY_cart (v : Byte) : (s.setY v).cart = s.cart := rfl
@[simp] theorem State.setY_inputs (v : Byte) : (s.setY v).inputs = s.inputs := rfl
@[simp] theorem State.setY_params (v : Byte) : (s.setY v).params = s.params := rfl

/-! ### `setSP` -/

@[simp] theorem State.setSP_cpu_a (v : Byte) : (s.setSP v).cpu.a = s.cpu.a := rfl
@[simp] theorem State.setSP_cpu_x (v : Byte) : (s.setSP v).cpu.x = s.cpu.x := rfl
@[simp] theorem State.setSP_cpu_y (v : Byte) : (s.setSP v).cpu.y = s.cpu.y := rfl
@[simp] theorem State.setSP_cpu_sp (v : Byte) : (s.setSP v).cpu.sp = v := rfl
@[simp] theorem State.setSP_cpu_pc (v : Byte) : (s.setSP v).cpu.pc = s.cpu.pc := rfl
@[simp] theorem State.setSP_cpu_p (v : Byte) : (s.setSP v).cpu.p = s.cpu.p := rfl
@[simp] theorem State.setSP_cpu_nmiPending (v : Byte) : (s.setSP v).cpu.nmiPending = s.cpu.nmiPending := rfl
@[simp] theorem State.setSP_cpu_irqPending (v : Byte) : (s.setSP v).cpu.irqPending = s.cpu.irqPending := rfl
@[simp] theorem State.setSP_cpu_halted (v : Byte) : (s.setSP v).cpu.halted = s.cpu.halted := rfl
@[simp] theorem State.setSP_cpu_cycles (v : Byte) : (s.setSP v).cpu.cycles = s.cpu.cycles := rfl
@[simp] theorem State.setSP_ram (v : Byte) : (s.setSP v).ram = s.ram := rfl
@[simp] theorem State.setSP_ppu (v : Byte) : (s.setSP v).ppu = s.ppu := rfl
@[simp] theorem State.setSP_pad1 (v : Byte) : (s.setSP v).pad1 = s.pad1 := rfl
@[simp] theorem State.setSP_pad2 (v : Byte) : (s.setSP v).pad2 = s.pad2 := rfl
@[simp] theorem State.setSP_cart (v : Byte) : (s.setSP v).cart = s.cart := rfl
@[simp] theorem State.setSP_inputs (v : Byte) : (s.setSP v).inputs = s.inputs := rfl
@[simp] theorem State.setSP_params (v : Byte) : (s.setSP v).params = s.params := rfl

/-! ### `setPC` -/

@[simp] theorem State.setPC_cpu_a (v : Word) : (s.setPC v).cpu.a = s.cpu.a := rfl
@[simp] theorem State.setPC_cpu_x (v : Word) : (s.setPC v).cpu.x = s.cpu.x := rfl
@[simp] theorem State.setPC_cpu_y (v : Word) : (s.setPC v).cpu.y = s.cpu.y := rfl
@[simp] theorem State.setPC_cpu_sp (v : Word) : (s.setPC v).cpu.sp = s.cpu.sp := rfl
@[simp] theorem State.setPC_cpu_pc (v : Word) : (s.setPC v).cpu.pc = v := rfl
@[simp] theorem State.setPC_cpu_p (v : Word) : (s.setPC v).cpu.p = s.cpu.p := rfl
@[simp] theorem State.setPC_cpu_nmiPending (v : Word) : (s.setPC v).cpu.nmiPending = s.cpu.nmiPending := rfl
@[simp] theorem State.setPC_cpu_irqPending (v : Word) : (s.setPC v).cpu.irqPending = s.cpu.irqPending := rfl
@[simp] theorem State.setPC_cpu_halted (v : Word) : (s.setPC v).cpu.halted = s.cpu.halted := rfl
@[simp] theorem State.setPC_cpu_cycles (v : Word) : (s.setPC v).cpu.cycles = s.cpu.cycles := rfl
@[simp] theorem State.setPC_ram (v : Word) : (s.setPC v).ram = s.ram := rfl
@[simp] theorem State.setPC_ppu (v : Word) : (s.setPC v).ppu = s.ppu := rfl
@[simp] theorem State.setPC_pad1 (v : Word) : (s.setPC v).pad1 = s.pad1 := rfl
@[simp] theorem State.setPC_pad2 (v : Word) : (s.setPC v).pad2 = s.pad2 := rfl
@[simp] theorem State.setPC_cart (v : Word) : (s.setPC v).cart = s.cart := rfl
@[simp] theorem State.setPC_inputs (v : Word) : (s.setPC v).inputs = s.inputs := rfl
@[simp] theorem State.setPC_params (v : Word) : (s.setPC v).params = s.params := rfl

/-! ### `setP` -/

@[simp] theorem State.setP_cpu_a (v : Byte) : (s.setP v).cpu.a = s.cpu.a := rfl
@[simp] theorem State.setP_cpu_x (v : Byte) : (s.setP v).cpu.x = s.cpu.x := rfl
@[simp] theorem State.setP_cpu_y (v : Byte) : (s.setP v).cpu.y = s.cpu.y := rfl
@[simp] theorem State.setP_cpu_sp (v : Byte) : (s.setP v).cpu.sp = s.cpu.sp := rfl
@[simp] theorem State.setP_cpu_pc (v : Byte) : (s.setP v).cpu.pc = s.cpu.pc := rfl
@[simp] theorem State.setP_cpu_p (v : Byte) : (s.setP v).cpu.p = v := rfl
@[simp] theorem State.setP_cpu_nmiPending (v : Byte) : (s.setP v).cpu.nmiPending = s.cpu.nmiPending := rfl
@[simp] theorem State.setP_cpu_irqPending (v : Byte) : (s.setP v).cpu.irqPending = s.cpu.irqPending := rfl
@[simp] theorem State.setP_cpu_halted (v : Byte) : (s.setP v).cpu.halted = s.cpu.halted := rfl
@[simp] theorem State.setP_cpu_cycles (v : Byte) : (s.setP v).cpu.cycles = s.cpu.cycles := rfl
@[simp] theorem State.setP_ram (v : Byte) : (s.setP v).ram = s.ram := rfl
@[simp] theorem State.setP_ppu (v : Byte) : (s.setP v).ppu = s.ppu := rfl
@[simp] theorem State.setP_pad1 (v : Byte) : (s.setP v).pad1 = s.pad1 := rfl
@[simp] theorem State.setP_pad2 (v : Byte) : (s.setP v).pad2 = s.pad2 := rfl
@[simp] theorem State.setP_cart (v : Byte) : (s.setP v).cart = s.cart := rfl
@[simp] theorem State.setP_inputs (v : Byte) : (s.setP v).inputs = s.inputs := rfl
@[simp] theorem State.setP_params (v : Byte) : (s.setP v).params = s.params := rfl

/-! ### `addCycles` -/

@[simp] theorem State.addCycles_cpu_a (n : Nat) : (s.addCycles n).cpu.a = s.cpu.a := rfl
@[simp] theorem State.addCycles_cpu_x (n : Nat) : (s.addCycles n).cpu.x = s.cpu.x := rfl
@[simp] theorem State.addCycles_cpu_y (n : Nat) : (s.addCycles n).cpu.y = s.cpu.y := rfl
@[simp] theorem State.addCycles_cpu_sp (n : Nat) : (s.addCycles n).cpu.sp = s.cpu.sp := rfl
@[simp] theorem State.addCycles_cpu_pc (n : Nat) : (s.addCycles n).cpu.pc = s.cpu.pc := rfl
@[simp] theorem State.addCycles_cpu_p (n : Nat) : (s.addCycles n).cpu.p = s.cpu.p := rfl
@[simp] theorem State.addCycles_cpu_nmiPending (n : Nat) : (s.addCycles n).cpu.nmiPending = s.cpu.nmiPending := rfl
@[simp] theorem State.addCycles_cpu_irqPending (n : Nat) : (s.addCycles n).cpu.irqPending = s.cpu.irqPending := rfl
@[simp] theorem State.addCycles_cpu_halted (n : Nat) : (s.addCycles n).cpu.halted = s.cpu.halted := rfl
@[simp] theorem State.addCycles_cpu_cycles (n : Nat) : (s.addCycles n).cpu.cycles = s.cpu.cycles + n := rfl
@[simp] theorem State.addCycles_ram (n : Nat) : (s.addCycles n).ram = s.ram := rfl
@[simp] theorem State.addCycles_ppu (n : Nat) : (s.addCycles n).ppu = s.ppu := rfl
@[simp] theorem State.addCycles_pad1 (n : Nat) : (s.addCycles n).pad1 = s.pad1 := rfl
@[simp] theorem State.addCycles_pad2 (n : Nat) : (s.addCycles n).pad2 = s.pad2 := rfl
@[simp] theorem State.addCycles_cart (n : Nat) : (s.addCycles n).cart = s.cart := rfl
@[simp] theorem State.addCycles_inputs (n : Nat) : (s.addCycles n).inputs = s.inputs := rfl
@[simp] theorem State.addCycles_params (n : Nat) : (s.addCycles n).params = s.params := rfl

/-! ### `setNmiPending` -/

@[simp] theorem State.setNmiPending_cpu_a (v : Bool) : (s.setNmiPending v).cpu.a = s.cpu.a := rfl
@[simp] theorem State.setNmiPending_cpu_x (v : Bool) : (s.setNmiPending v).cpu.x = s.cpu.x := rfl
@[simp] theorem State.setNmiPending_cpu_y (v : Bool) : (s.setNmiPending v).cpu.y = s.cpu.y := rfl
@[simp] theorem State.setNmiPending_cpu_sp (v : Bool) : (s.setNmiPending v).cpu.sp = s.cpu.sp := rfl
@[simp] theorem State.setNmiPending_cpu_pc (v : Bool) : (s.setNmiPending v).cpu.pc = s.cpu.pc := rfl
@[simp] theorem State.setNmiPending_cpu_p (v : Bool) : (s.setNmiPending v).cpu.p = s.cpu.p := rfl
@[simp] theorem State.setNmiPending_cpu_nmiPending (v : Bool) : (s.setNmiPending v).cpu.nmiPending = v := rfl
@[simp] theorem State.setNmiPending_cpu_irqPending (v : Bool) : (s.setNmiPending v).cpu.irqPending = s.cpu.irqPending := rfl
@[simp] theorem State.setNmiPending_cpu_halted (v : Bool) : (s.setNmiPending v).cpu.halted = s.cpu.halted := rfl
@[simp] theorem State.setNmiPending_cpu_cycles (v : Bool) : (s.setNmiPending v).cpu.cycles = s.cpu.cycles := rfl
@[simp] theorem State.setNmiPending_ram (v : Bool) : (s.setNmiPending v).ram = s.ram := rfl
@[simp] theorem State.setNmiPending_ppu (v : Bool) : (s.setNmiPending v).ppu = s.ppu := rfl
@[simp] theorem State.setNmiPending_pad1 (v : Bool) : (s.setNmiPending v).pad1 = s.pad1 := rfl
@[simp] theorem State.setNmiPending_pad2 (v : Bool) : (s.setNmiPending v).pad2 = s.pad2 := rfl
@[simp] theorem State.setNmiPending_cart (v : Bool) : (s.setNmiPending v).cart = s.cart := rfl
@[simp] theorem State.setNmiPending_inputs (v : Bool) : (s.setNmiPending v).inputs = s.inputs := rfl
@[simp] theorem State.setNmiPending_params (v : Bool) : (s.setNmiPending v).params = s.params := rfl

/-! ### `setIrqPending` -/

@[simp] theorem State.setIrqPending_cpu_a (v : Bool) : (s.setIrqPending v).cpu.a = s.cpu.a := rfl
@[simp] theorem State.setIrqPending_cpu_x (v : Bool) : (s.setIrqPending v).cpu.x = s.cpu.x := rfl
@[simp] theorem State.setIrqPending_cpu_y (v : Bool) : (s.setIrqPending v).cpu.y = s.cpu.y := rfl
@[simp] theorem State.setIrqPending_cpu_sp (v : Bool) : (s.setIrqPending v).cpu.sp = s.cpu.sp := rfl
@[simp] theorem State.setIrqPending_cpu_pc (v : Bool) : (s.setIrqPending v).cpu.pc = s.cpu.pc := rfl
@[simp] theorem State.setIrqPending_cpu_p (v : Bool) : (s.setIrqPending v).cpu.p = s.cpu.p := rfl
@[simp] theorem State.setIrqPending_cpu_nmiPending (v : Bool) : (s.setIrqPending v).cpu.nmiPending = s.cpu.nmiPending := rfl
@[simp] theorem State.setIrqPending_cpu_irqPending (v : Bool) : (s.setIrqPending v).cpu.irqPending = v := rfl
@[simp] theorem State.setIrqPending_cpu_halted (v : Bool) : (s.setIrqPending v).cpu.halted = s.cpu.halted := rfl
@[simp] theorem State.setIrqPending_cpu_cycles (v : Bool) : (s.setIrqPending v).cpu.cycles = s.cpu.cycles := rfl
@[simp] theorem State.setIrqPending_ram (v : Bool) : (s.setIrqPending v).ram = s.ram := rfl
@[simp] theorem State.setIrqPending_ppu (v : Bool) : (s.setIrqPending v).ppu = s.ppu := rfl
@[simp] theorem State.setIrqPending_pad1 (v : Bool) : (s.setIrqPending v).pad1 = s.pad1 := rfl
@[simp] theorem State.setIrqPending_pad2 (v : Bool) : (s.setIrqPending v).pad2 = s.pad2 := rfl
@[simp] theorem State.setIrqPending_cart (v : Bool) : (s.setIrqPending v).cart = s.cart := rfl
@[simp] theorem State.setIrqPending_inputs (v : Bool) : (s.setIrqPending v).inputs = s.inputs := rfl
@[simp] theorem State.setIrqPending_params (v : Bool) : (s.setIrqPending v).params = s.params := rfl

/-! ### The setters made of others -/

@[simp] theorem State.setFlag_eq (f : Flag) (v : Bool) : s.setFlag f v = s.setP (f.put v s.cpu.p) := rfl
@[simp] theorem State.flag_eq (f : Flag) : s.flag f = f.get s.cpu.p := rfl
@[simp] theorem State.loadA_eq (v : Byte) : s.loadA v = (s.setA v).setP (setZN v s.cpu.p) := rfl
@[simp] theorem State.loadX_eq (v : Byte) : s.loadX v = (s.setX v).setP (setZN v s.cpu.p) := rfl
@[simp] theorem State.loadY_eq (v : Byte) : s.loadY v = (s.setY v).setP (setZN v s.cpu.p) := rfl
@[simp] theorem requestNmi_eq : requestNmi s = s.setNmiPending true := rfl
@[simp] theorem requestIrq_eq : requestIrq s = s.setIrqPending true := rfl
@[simp] theorem releaseIrq_eq : releaseIrq s = s.setIrqPending false := rfl

end Sys2Proof.Machine
end

