-- ==== Sys2Proof/Laws/Ops.lean ====
section
/-! SUPPORT. The laws of the bus, the stack and interrupt entry: what one read, one write, a push, a pull and an entry can
do, said once. -/

namespace Sys2Proof.Machine

/-! ### The decoder -/

theorem busTarget_ram {a : Word} (h : a.toNat < 0x2000) : busTarget a = .ram (a.toNat % 0x800) := by
  rw [busTarget, if_pos (by omega)]

theorem busTarget_cart {a : Word} (h : 0x4020 ≤ a.toNat) : busTarget a = .cart := by
  unfold busTarget
  repeat rw [if_neg (by omega)]

theorem toNat_stackAddr (sp : Byte) : (stackAddr sp).toNat = 256 + sp.toNat := by
  rw [stackAddr, toNat_w16]
  rfl

theorem busTarget_stackAddr (sp : Byte) : busTarget (stackAddr sp) = .ram (stackCell sp) := by
  have h := toNat_stackAddr sp
  have := sp.isLt
  rw [busTarget_ram (by omega), h, Nat.mod_eq_of_lt (by omega), stackCell]

theorem busTarget_zeroPage (z : Byte) : busTarget (zext16 z) = .ram z.toNat := by
  have h := toNat_zext16 z
  have := z.isLt
  rw [busTarget_ram (by omega), h, Nat.mod_eq_of_lt (by omega)]

/-! ### Reads -/

theorem memRead_ram {a : Word} (h : a.toNat < 0x2000) (s : State) :
    memRead a s = (Memory.read s.ram (a.toNat % 0x800), s) := by
  rw [memRead, busTarget_ram h]

theorem memRead_cart {a : Word} (h : 0x4020 ≤ a.toNat) (s : State) :
    memRead a s = ((s.cart.readPrg a).1, { s with cart := (s.cart.readPrg a).2 }) := by
  rw [memRead, busTarget_cart h]

/-- A plain byte of the cartridge: the no-bank-switching one's, read without an effect. -/
theorem memRead_plainCart {a : Word} (h : 0x4020 ≤ a.toNat) {s : State} {p : PlainCart} (hp : s.cart = .plain p) :
    memRead a s = (p.readPrg a, s) := by
  obtain ⟨cpu, ram, ppu, pad1, pad2, cart, inputs, params⟩ := s
  subst hp
  rw [memRead_cart h]
  rfl

/-- A read of plain memory changes nothing. -/
theorem memRead_plain {a : Word} {s : State} (h : plainMemory a s) : (memRead a s).2 = s := by
  rcases h with h | ⟨h, hp⟩
  · rw [memRead_ram h]
  · obtain ⟨p, hp⟩ := Cart.mapper_plain hp
    rw [memRead_plainCart h hp]

@[simp] theorem memRead_stackAddr (sp : Byte) (s : State) : memRead (stackAddr sp) s = (stackByte sp s, s) := by
  rw [memRead, busTarget_stackAddr]
  rfl

@[simp] theorem memRead_zeroPage (z : Byte) (s : State) : memRead (zext16 z) s = (Memory.read s.ram z.toNat, s) := by
  rw [memRead, busTarget_zeroPage]

theorem OnlyReadEffects.refl (s : State) : OnlyReadEffects s s := by
  unfold OnlyReadEffects
  rw [Cart.withOwn_own]

theorem OnlyReadEffects.trans {s t u : State} (h : OnlyReadEffects s t) (k : OnlyReadEffects t u) :
    OnlyReadEffects s u := by
  unfold OnlyReadEffects at *
  rw [k, h]
  simp only [Cart.withOwn_withOwn, Cart.withOwn_own_withOwn]

/-- The PPU after a register read: only the listed fields can change. -/
theorem ppuRegRead_effects (cfg : Params) (c : Cart) (p : Ppu) (r : PpuReg) :
    (ppuRegRead cfg c p r).2.1 =
      { p with
        vblank := (ppuRegRead cfg c p r).2.1.vblank, w := (ppuRegRead cfg c p r).2.1.w,
        v := (ppuRegRead cfg c p r).2.1.v, readBuffer := (ppuRegRead cfg c p r).2.1.readBuffer } := by
  cases r <;> simp only [ppuRegRead, Ppu.readData]
  split <;> rfl

/-- The cartridge after a register read. -/
theorem ppuRegRead_read (cfg : Params) (c : Cart) (p : Ppu) (r : PpuReg) : CartRead c (ppuRegRead cfg c p r).2.2 := by
  cases r <;> simp only [ppuRegRead, Ppu.readData] <;> try exact .refl c
  split
  · exact ppuRead_read _ _ _ _
  · exact (ppuRead_read _ _ _ _).trans (ppuRead_read _ _ _ _)

theorem Controller.read_effects (c : Controller) : c.read.2 = { c with index := c.read.2.index } := by
  unfold Controller.read
  split
  · rfl
  · split <;> rfl

/-- All a bus read can change (R80). -/
theorem memRead_effects (a : Word) (s : State) : OnlyReadEffects s (memRead a s).2 := by
  unfold memRead
  split
  · exact .refl s
  · unfold OnlyReadEffects
    dsimp only
    rw [← ppuRegRead_effects, ← ppuRegRead_read]
  · unfold OnlyReadEffects
    dsimp only
    rw [← Controller.read_effects, Cart.withOwn_own]
  · unfold OnlyReadEffects
    dsimp only
    rw [← Controller.read_effects, Cart.withOwn_own]
  · exact .refl s
  · exact .refl s
  · unfold OnlyReadEffects
    dsimp only
    rw [← Cart.readPrg_read]

section ReadKept

variable {s t : State} (h : OnlyReadEffects s t)
include h

theorem OnlyReadEffects.cpu : t.cpu = s.cpu := by rw [h]
theorem OnlyReadEffects.ram : t.ram = s.ram := by rw [h]
theorem OnlyReadEffects.cartRead : CartRead s.cart t.cart := congrArg State.cart h
theorem OnlyReadEffects.mapper : t.cart.mapper = s.cart.mapper := h.cartRead.mapper
theorem OnlyReadEffects.cart (hp : s.plainCart) : t.cart = s.cart := h.cartRead.of_plain hp
theorem OnlyReadEffects.inputs : t.inputs = s.inputs := by rw [h]
theorem OnlyReadEffects.params : t.params = s.params := by rw [h]
theorem OnlyReadEffects.nt : t.ppu.nt = s.ppu.nt := by rw [h]
theorem OnlyReadEffects.pal : t.ppu.pal = s.ppu.pal := by rw [h]
theorem OnlyReadEffects.oam : t.ppu.oam = s.ppu.oam := by rw [h]

/-- A byte of plain memory reads the same after a read. -/
theorem OnlyReadEffects.peek {a : Word} (ha : plainMemory a s) : Machine.peek a t = Machine.peek a s := by
  rcases ha with ha | ⟨ha, hp⟩
  · rw [Machine.peek, Machine.peek, memRead_ram ha, memRead_ram ha, h.ram]
  · rw [Machine.peek, Machine.peek, memRead_cart ha, memRead_cart ha, h.cart hp]

/-- Plain memory stays plain memory. -/
theorem OnlyReadEffects.plainMemory {a : Word} : Machine.plainMemory a t ↔ Machine.plainMemory a s := by
  unfold Machine.plainMemory State.plainCart
  rw [h.mapper]

end ReadKept

@[simp] theorem memRead_cpu (a : Word) (s : State) : (memRead a s).2.cpu = s.cpu := (memRead_effects a s).cpu
@[simp] theorem memRead_ram_kept (a : Word) (s : State) : (memRead a s).2.ram = s.ram := (memRead_effects a s).ram
@[simp] theorem memRead_mapper (a : Word) (s : State) : (memRead a s).2.cart.mapper = s.cart.mapper :=
  (memRead_effects a s).mapper
@[simp] theorem memRead_inputs (a : Word) (s : State) : (memRead a s).2.inputs = s.inputs := (memRead_effects a s).inputs
@[simp] theorem memRead_params (a : Word) (s : State) : (memRead a s).2.params = s.params := (memRead_effects a s).params

/-- A read does not depend on the CPU, which it leaves as it is. -/
theorem memRead_withCpu (a : Word) (s : State) (c : Cpu) :
    memRead a { s with cpu := c } = ((memRead a s).1, { (memRead a s).2 with cpu := c }) := by
  unfold memRead
  split <;> rfl

theorem peek_withCpu (a : Word) (s : State) (c : Cpu) : peek a { s with cpu := c } = peek a s := by
  rw [peek, memRead_withCpu]
  rfl

/-- A 16-bit pointer in page 0 (R12): two bytes of RAM, no effect. -/
theorem memRead16ZP_eq (z : Byte) (s : State) :
    memRead16ZP z s = (w16 (Memory.read s.ram (z + 1).toNat) (Memory.read s.ram z.toNat), s) := by
  simp [memRead16ZP, readPair]

/-- The three vectors lie in the cartridge: reading one is two reads of it, and changes nothing else. -/
theorem memRead16_vector {a : Word} (h : 0x4020 ≤ a.toNat) (h1 : a.toNat < 0xFFFF) (s : State) :
    memRead16 a s = ((s.cart.readWord a).1, { s with cart := (s.cart.readWord a).2 }) := by
  have : (a + 1).toNat = a.toNat + 1 := by
    rw [BitVec.toNat_add]
    exact Nat.mod_eq_of_lt (by change a.toNat + 1 < 65536; omega)
  simp only [memRead16, readPair, memRead_cart h, memRead_cart (a := a + 1) (by omega)]
  rfl

/-! ### Writes -/

theorem memWrite_ram {a : Word} (h : a.toNat < 0x2000) (v : Byte) (s : State) :
    memWrite a v s = { s with ram := Memory.write s.ram (a.toNat % 0x800) v } := by
  rw [memWrite, busTarget_ram h]

theorem memWrite_cart {a : Word} (h : 0x4020 ≤ a.toNat) (v : Byte) (s : State) :
    memWrite a v s = { s with cart := s.cart.writePrg a v } := by
  rw [memWrite, busTarget_cart h]

@[simp] theorem memWrite_stackAddr (sp v : Byte) (s : State) :
    memWrite (stackAddr sp) v s = { s with ram := Memory.write s.ram (stackCell sp) v } := by
  rw [memWrite, busTarget_stackAddr]

/-- What a bus write never touches: the CPU but for the cycles of a DMA, the host's inputs and buttons, the
parameters, the PPU's position, sprite flags and list, and pictures. -/
structure WriteKept (s t : State) : Prop where
  cpu            : t.cpu = { s.cpu with cycles := t.cpu.cycles }
  cycles         : s.cpu.cycles ≤ t.cpu.cycles
  inputs         : t.inputs = s.inputs
  params         : t.params = s.params
  buttons1       : t.pad1.buttons = s.pad1.buttons
  buttons2       : t.pad2.buttons = s.pad2.buttons
  scanline       : t.ppu.scanline = s.ppu.scanline
  dot            : t.ppu.dot = s.ppu.dot
  frame          : t.ppu.frame = s.ppu.frame
  lineSprites    : t.ppu.lineSprites = s.ppu.lineSprites
  sprite0Hit     : t.ppu.sprite0Hit = s.ppu.sprite0Hit
  spriteOverflow : t.ppu.spriteOverflow = s.ppu.spriteOverflow
  back           : t.ppu.back = s.ppu.back
  front          : t.ppu.front = s.ppu.front

theorem WriteKept.refl (s : State) : WriteKept s s := by constructor <;> rfl

theorem WriteKept.trans {s t u : State} (h : WriteKept s t) (k : WriteKept t u) : WriteKept s u where
  cpu            := by rw [k.cpu, h.cpu]
  cycles         := h.cycles.trans k.cycles
  inputs         := k.inputs.trans h.inputs
  params         := k.params.trans h.params
  buttons1       := k.buttons1.trans h.buttons1
  buttons2       := k.buttons2.trans h.buttons2
  scanline       := k.scanline.trans h.scanline
  dot            := k.dot.trans h.dot
  frame          := k.frame.trans h.frame
  lineSprites    := k.lineSprites.trans h.lineSprites
  sprite0Hit     := k.sprite0Hit.trans h.sprite0Hit
  spriteOverflow := k.spriteOverflow.trans h.spriteOverflow
  back           := k.back.trans h.back
  front          := k.front.trans h.front

/-- A read keeps all a write keeps. -/
theorem OnlyReadEffects.writeKept {s t : State} (h : OnlyReadEffects s t) : WriteKept s t := by
  constructor <;> rw [h]

theorem dmaByte_kept (page : Byte) (s : State) (i : Nat) : WriteKept s (dmaByte page s i) :=
  (memRead_effects _ s).writeKept.trans (by constructor <;> rfl)

theorem foldl_dmaByte_kept (page : Byte) (l : List Nat) (s : State) : WriteKept s (l.foldl (dmaByte page) s) := by
  induction l generalizing s with
  | nil => exact .refl s
  | cons i l ih => exact (dmaByte_kept page s i).trans (ih _)

theorem addCycles_kept (n : Nat) (s : State) : WriteKept s (s.addCycles n) := by
  constructor <;> simp [State.addCycles]

theorem oamDma_kept (page : Byte) (s : State) : WriteKept s (oamDma page s) :=
  (foldl_dmaByte_kept page _ s).trans (addCycles_kept _ _)

/-- All a bus write can leave alone (R67). -/
theorem memWrite_kept (a : Word) (v : Byte) (s : State) : WriteKept s (memWrite a v s) := by
  unfold memWrite
  split
  · constructor <;> rfl
  · rename_i r _
    cases r <;> simp only [ppuRegWrite, Ppu.writeCtrl, Ppu.writeOamData, Ppu.writeScroll, Ppu.writeAddr,
      Ppu.writeData, ppuWrite] <;> (repeat' split) <;> constructor <;> rfl
  · exact oamDma_kept v s
  · constructor <;> first | rfl | (simp only [Controller.writeStrobe]; split <;> rfl)
  · exact .refl s
  · exact .refl s
  · constructor <;> rfl

@[simp] theorem memWrite_params (a : Word) (v : Byte) (s : State) : (memWrite a v s).params = s.params :=
  (memWrite_kept a v s).params

/-! ### Stored cells -/

/-- A written canonical memory: the cell written and no other. -/
theorem CellsStored.single {w : Nat} {m : List (Nat × BitVec w)} (h : Memory.wf m) (a : Nat) (v : BitVec w) :
    CellsStored m (Memory.write m a v) [(a, v)] := by
  refine ⟨Memory.wf_write h a v, ?_, fun k hk => ?_⟩
  · simp [Memory.read_write_same h]
  · exact Memory.read_write_other _ _ (fun e => hk (a, v) (by simp) e.symm)

/-- One more cell written, at another address. -/
theorem CellsStored.snoc {w : Nat} {m m' : List (Nat × BitVec w)} {l : List (Nat × BitVec w)}
    (h : CellsStored m m' l) (a : Nat) (v : BitVec w) (d : ∀ c ∈ l, a ≠ c.1) :
    CellsStored m (Memory.write m' a v) (l ++ [(a, v)]) := by
  refine ⟨Memory.wf_write h.1 a v, fun c hc => ?_, fun k hk => ?_⟩
  · rcases List.mem_append.1 hc with hc | hc
    · rw [Memory.read_write_other _ _ (d c hc).symm, h.2.1 c hc]
    · rw [List.mem_singleton] at hc
      subst hc
      exact Memory.read_write_same h.1 _ _
  · rw [Memory.read_write_other _ _ (fun e => hk (a, v) (by simp) e.symm), h.2.2 k fun c hc => hk c (by simp [hc])]

/-! ### The stack -/

/-- `Push` (R12, R22). -/
theorem push_eq (v : Byte) (s : State) :
    push v s = { s with
      ram := Memory.write s.ram (stackCell s.cpu.sp) v, cpu := { s.cpu with sp := s.cpu.sp - 1 } } := by
  rw [push, memWrite_stackAddr]
  rfl

/-- `Pull` (R12, R22). -/
theorem pull_eq (s : State) : pull s = (stackByte (s.cpu.sp + 1) s, s.setSP (s.cpu.sp + 1)) := by
  rw [pull, memRead_stackAddr]
  rfl

theorem stackCell_inj {a b : Byte} : stackCell a = stackCell b ↔ a = b := by
  rw [stackCell, stackCell, Nat.add_left_cancel_iff]
  exact ⟨BitVec.eq_of_toNat_eq, fun h => by rw [h]⟩

theorem pushWord_eq (w : Word) (s : State) :
    pushWord w s = { s with
      ram := Memory.write (Memory.write s.ram (stackCell s.cpu.sp) (hi w)) (stackCell (s.cpu.sp - 1)) (lo w)
      cpu := { s.cpu with sp := s.cpu.sp - 2 } } := by
  rw [pushWord, push_eq, push_eq]
  simp only [State.mk.injEq, Cpu.mk.injEq, true_and, and_true]
  bv_omega

theorem pullWord_eq (s : State) :
    pullWord s = (w16 (stackByte (s.cpu.sp + 2) s) (stackByte (s.cpu.sp + 1) s), s.setSP (s.cpu.sp + 2)) := by
  have h : s.cpu.sp + 1 + 1 = s.cpu.sp + 2 := by bv_omega
  rw [pullWord, pull_eq, pull_eq]
  simp only [State.setSP_cpu_sp, h]
  rfl

/-- The entry shared by NMI, IRQ and BRK, for the vectors of R270. -/
theorem takeInterrupt_eq {vector : Word} (h : 0x4020 ≤ vector.toNat) (h1 : vector.toNat < 0xFFFF) (returnTo : Word)
    (status : Byte) (s : State) :
    takeInterrupt vector returnTo status s = { s with
      ram := Memory.write (Memory.write (Memory.write s.ram (stackCell s.cpu.sp) (hi returnTo))
        (stackCell (s.cpu.sp - 1)) (lo returnTo)) (stackCell (s.cpu.sp - 2)) status
      cart := (s.cart.readWord vector).2
      cpu := { s.cpu with
        sp := s.cpu.sp - 3
        p := Flag.i.put true s.cpu.p
        pc := (s.cart.readWord vector).1
        cycles := s.cpu.cycles + 7 } } := by
  rw [takeInterrupt, pushWord_eq, push_eq, memRead16_vector h h1]
  simp only [State.setFlag_eq, State.setP, State.setPC, State.addCycles, State.mk.injEq, Cpu.mk.injEq, true_and, and_true]
  bv_omega

/-- RTI but for its cycles (R239). -/
theorem returnFromInterrupt_eq (s : State) :
    returnFromInterrupt s = { s with
      cpu := { s.cpu with
        sp := s.cpu.sp + 3
        p := statusPulled (stackByte (s.cpu.sp + 1) s) s.cpu.p
        pc := w16 (stackByte (s.cpu.sp + 3) s) (stackByte (s.cpu.sp + 2) s) } } := by
  have h2 : s.cpu.sp + 1 + 1 = s.cpu.sp + 2 := by bv_omega
  have h3 : s.cpu.sp + 1 + 2 = s.cpu.sp + 3 := by bv_omega
  rw [returnFromInterrupt, pullStatus, pull_eq, pullWord_eq]
  simp only [State.setP_cpu_sp, State.setSP_cpu_sp, h2, h3]
  rfl

end Sys2Proof.Machine
end

