-- ==== Sys2Proof/Laws/Operands.lean ====
section
/-! SUPPORT. The laws of the addressing modes and of the instruction shapes: what an operand read, a read instruction, a
store, a read-modify-write and a branch can do, said once. -/

namespace Sys2Proof.Machine

/-- Computing an effective address changes nothing: the pointers it reads are bytes of page 0. -/
@[simp] theorem effAddr_state (m : MemMode) (s : State) : (effAddr m s).state = s := by
  cases m <;> simp [effAddr, indexed, memRead16ZP_eq]

/-- The effective address depends on X, Y and RAM only. -/
theorem effAddr_congr {s t : State} (m : MemMode) (hx : t.cpu.x = s.cpu.x) (hy : t.cpu.y = s.cpu.y)
    (hr : t.ram = s.ram) : (effAddr m t).addr = (effAddr m s).addr := by
  cases m <;> simp [effAddr, indexed, memRead16ZP_eq, hx, hy, hr]

/-- All an operand read can change (R80, R103). -/
theorem loadOperand_state (src : Source) (s : State) : OnlyReadEffects s (loadOperand src s).state := by
  cases src with
  | imm d => exact .refl s
  | mem m =>
    simp only [loadOperand, effAddr_state]
    exact memRead_effects _ s

@[simp] theorem loadOperand_cpu (src : Source) (s : State) : (loadOperand src s).state.cpu = s.cpu :=
  (loadOperand_state src s).cpu

/-- A read instruction whose operation writes only the CPU: the CPU it leaves, the rest as the operand read left it. -/
theorem readOp_eq (act : Byte → State → State) (f : Byte → Cpu → Cpu)
    (h : ∀ m t, act m t = { t with cpu := f m t.cpu }) (src : Source) (base : Nat) (s : State) :
    readOp act src base s =
      { (loadOperand src s).state with
        cpu := { f (loadOperand src s).value s.cpu with
          cycles := (f (loadOperand src s).value s.cpu).cycles + (base + crossingPenalty (loadOperand src s).crossed) } } := by
  simp only [readOp, h, State.addCycles, loadOperand_cpu]

/-- A store (R143 to R145). -/
theorem storeOp_eq (v : Byte) (m : MemMode) (base : Nat) (s : State) :
    storeOp v m base s = (memWrite (effAddr m s).addr v s).addCycles base := by
  simp only [storeOp, effAddr_state]

/-- A read-modify-write of memory: one read, one write (R103). -/
theorem modifyOp_mem (f : Byte → Byte → Byte × Byte) (m : MemMode) (base : Nat) (s : State) :
    modifyOp f (.mem m) base s =
      let o := memRead (effAddr m s).addr s
      let w := memWrite (effAddr m s).addr (f o.1 s.cpu.p).1 o.2
      { w with cpu := { w.cpu with p := (f o.1 s.cpu.p).2, cycles := w.cpu.cycles + base } } := by
  simp only [modifyOp, effAddr_state, memRead_cpu, State.setP, State.addCycles]

/-- The cycles of a taken branch (R132). -/
theorem branchOp_taken {f : Flag} {wanted : Bool} {d : Byte} {s : State} (h : s.flag f = wanted) :
    branchOp f wanted d s =
      (s.setPC (branchTarget d s)).addCycles (2 + (1 + if pageDiffers (branchTarget d s) s.cpu.pc then 1 else 0)) := by
  rw [branchOp, if_pos h]

theorem branchOp_not_taken {f : Flag} {wanted : Bool} {d : Byte} {s : State} (h : s.flag f ≠ wanted) :
    branchOp f wanted d s = s.addCycles 2 := by
  rw [branchOp, if_neg h]

/-! ### What of the CPU a shape keeps: any reading `g` of the CPU that does not see the cycles -/

section Kept

variable {α : Type} (g : Cpu → α) (hg : ∀ c n, g { c with cycles := n } = g c)
include hg

/-- A read instruction keeps what its operation keeps. -/
theorem readOp_keeps (act : Byte → State → State) (h : ∀ m t, g (act m t).cpu = g t.cpu) (src : Source) (base : Nat)
    (s : State) : g (readOp act src base s).cpu = g s.cpu := by
  unfold readOp
  simp only [State.addCycles, hg, h, loadOperand_cpu]

/-- A store keeps the CPU but for the cycles. -/
theorem storeOp_keeps (v : Byte) (m : MemMode) (base : Nat) (s : State) : g (storeOp v m base s).cpu = g s.cpu := by
  rw [storeOp_eq]
  show g { (memWrite (effAddr m s).addr v s).cpu with cycles := _ } = _
  rw [hg, (memWrite_kept _ v s).cpu, hg]

/-- A read-modify-write of memory keeps what its new P keeps. -/
theorem modifyOp_mem_keeps (f : Byte → Byte → Byte × Byte) (h : ∀ m c, g { c with p := (f m c.p).2 } = g c)
    (m : MemMode) (base : Nat) (s : State) : g (modifyOp f (.mem m) base s).cpu = g s.cpu := by
  rw [modifyOp_mem]
  dsimp only
  have hk := memWrite_kept (effAddr m s).addr (f (memRead (effAddr m s).addr s).1 s.cpu.p).1
    (memRead (effAddr m s).addr s).2
  have hp := h (memRead (effAddr m s).addr s).1 s.cpu
  rw [hk.cpu]
  simp only [memRead_cpu] at *
  rw [← hp, ← hg _ s.cpu.cycles, ← hg { s.cpu with p := _ } s.cpu.cycles]

/-- An accumulator shift keeps what its new A and P keep. -/
theorem modifyOp_acc_keeps (f : Byte → Byte → Byte × Byte)
    (h : ∀ m c, g { c with a := (f m c.p).1, p := (f m c.p).2 } = g c) (base : Nat) (s : State) :
    g (modifyOp f .acc base s).cpu = g s.cpu := by
  rw [← h s.cpu.a s.cpu, ← hg _ s.cpu.cycles, ← hg { s.cpu with a := _, p := _ } s.cpu.cycles]
  rfl

/-- A branch keeps the CPU but for PC and the cycles. -/
theorem branchOp_keeps (hp : ∀ c n, g { c with pc := n } = g c) (f : Flag) (wanted : Bool) (d : Byte) (s : State) :
    g (branchOp f wanted d s).cpu = g s.cpu := by
  unfold branchOp
  split
  · exact (hg { s.cpu with pc := branchTarget d s } _).trans (hp _ _)
  · exact hg _ _

end Kept

end Sys2Proof.Machine
end

