-- ==== Sys2Proof/Laws/Exec.lean ====
section
/-! SUPPORT. What an instruction can do, said once: every next state of `exec` has one of three shapes (a read and a new
CPU; a read, one bus write and a new CPU; stack cells, reads of the cartridge and a new CPU), and no instruction touches the pending flags, the
halt latch or the stored bits 5 and 4 of P. -/

namespace Sys2Proof.Machine

/-- What no instruction changes in the CPU (R31, R37, R38), and its least cost (R251). -/
structure CpuKept (c c' : Cpu) : Prop where
  nmiPending : c'.nmiPending = c.nmiPending
  irqPending : c'.irqPending = c.irqPending
  halted     : c'.halted = c.halted
  unused     : c'.p.getLsbD 5 = c.p.getLsbD 5
  break_     : c'.p.getLsbD 4 = c.p.getLsbD 4
  cycles     : c.cycles + 2 ≤ c'.cycles

/-- `m'` is `m` after stores to bytes of the stack page. -/
inductive StackStores : Memory → Memory → Prop
  | none (m : Memory) : StackStores m m
  | push {m m' : Memory} (h : StackStores m m') (sp v : Byte) : StackStores m (Memory.write m' (stackCell sp) v)

/-- `t` is `s` after bus reads. -/
inductive Reads (s : State) : State → Prop
  | refl : Reads s s
  | read {t : State} (h : Reads s t) (a : Word) : Reads s (memRead a t).2

theorem Reads.effects {s t : State} (h : Reads s t) : OnlyReadEffects s t := by
  induction h with
  | refl => exact .refl s
  | read _ a ih => exact ih.trans (memRead_effects a _)

theorem loadOperand_reads (src : Source) (s : State) : Reads s (loadOperand src s).state := by
  cases src with
  | imm d => exact .refl
  | mem m =>
    simp only [loadOperand, effAddr_state]
    exact .read .refl _

/-- The three shapes of an instruction's next state. -/
inductive Effect (s : State) : State → Prop
  | read (u : State) (c : Cpu) (hu : Reads s u) (hc : CpuKept s.cpu c) : Effect s { u with cpu := c }
  | write (u : State) (a : Word) (v : Byte) (c : Cpu) (hu : Reads s u)
      (hc : CpuKept (memWrite a v u).cpu c) : Effect s { memWrite a v u with cpu := c }
  | stack (m : Memory) (d : Cart) (c : Cpu) (hm : StackStores s.ram m) (hd : CartRead s.cart d)
      (hc : CpuKept s.cpu c) : Effect s { s with ram := m, cart := d, cpu := c }

/-- No instruction changes a parameter (R8). -/
theorem Effect.params {s t : State} (h : Effect s t) : t.params = s.params := by
  cases h with
  | read u c hu hc => exact hu.effects.params
  | write u a v c hu hc => exact (memWrite_params a v u).trans hu.effects.params
  | stack m d c hm hd hc => rfl

/-! ### The bits 5 and 4 of P under each flag operation -/

/-- A status byte with the stored bits of another. -/
def StoredKept (p p' : Byte) : Prop := p'.getLsbD 5 = p.getLsbD 5 ∧ p'.getLsbD 4 = p.getLsbD 4

theorem storedKept_put {f : Flag} (hu : f ≠ .u) (hb : f ≠ .b) (v : Bool) (p : Byte) : StoredKept p (f.put v p) := by
  constructor <;> rw [getLsbD_put _ _ _ _ (by decide), if_neg]
  · exact fun e => hu (bit_injective e.symm)
  · exact fun e => hb (bit_injective e.symm)

theorem StoredKept.trans {p q r : Byte} (h : StoredKept p q) (k : StoredKept q r) : StoredKept p r :=
  ⟨k.1.trans h.1, k.2.trans h.2⟩

theorem storedKept_setZN (v p : Byte) : StoredKept p (setZN v p) :=
  (storedKept_put (by decide) (by decide) _ p).trans (storedKept_put (by decide) (by decide) _ _)

theorem storedKept_addStatus (a m p : Byte) : StoredKept p (addStatus a m p) :=
  ((storedKept_put (by decide) (by decide) _ p).trans (storedKept_put (by decide) (by decide) _ _)).trans
    (storedKept_setZN _ _)

theorem storedKept_compareStatus (r m p : Byte) : StoredKept p (compareStatus r m p) :=
  ((storedKept_put (by decide) (by decide) _ p).trans (storedKept_put (by decide) (by decide) _ _)).trans
    (storedKept_put (by decide) (by decide) _ _)

theorem storedKept_bitTestStatus (a m p : Byte) : StoredKept p (bitTestStatus a m p) :=
  ((storedKept_put (by decide) (by decide) _ p).trans (storedKept_put (by decide) (by decide) _ _)).trans
    (storedKept_put (by decide) (by decide) _ _)

theorem storedKept_carryZN (c : Bool) (r p : Byte) : StoredKept p (setZN r (Flag.c.put c p)) :=
  (storedKept_put (by decide) (by decide) _ p).trans (storedKept_setZN _ _)

theorem storedKept_statusPulled (m p : Byte) : StoredKept p (statusPulled m p) := by
  constructor <;> rw [getLsbD_statusPulled _ _ _ (by decide)] <;> rfl

/-! ### Each shared shape -/

theorem CpuKept.of_p {c : Cpu} {p : Byte} {n : Nat} (h : StoredKept c.p p) (hn : 2 ≤ n) (a x y sp : Byte) (pc : Word) :
    CpuKept c { c with a := a, x := x, y := y, sp := sp, pc := pc, p := p, cycles := c.cycles + n } :=
  ⟨rfl, rfl, rfl, h.1, h.2, Nat.add_le_add_left hn _⟩

/-- An instruction that changes the CPU only. -/
theorem Effect.ofCpu (s : State) {c : Cpu} (hc : CpuKept s.cpu c) : Effect s { s with cpu := c } :=
  .read s c .refl hc

/-- A read instruction whose operation writes A, X, Y and P only. -/
theorem readOp_effect (act : Byte → State → State) (fa fx fy fp : Byte → Cpu → Byte)
    (h : ∀ m t, act m t = { t with
      cpu := { t.cpu with a := fa m t.cpu, x := fx m t.cpu, y := fy m t.cpu, p := fp m t.cpu } })
    (hp : ∀ m c, StoredKept c.p (fp m c)) (src : Source) {base : Nat} (hb : 2 ≤ base) (s : State) :
    Effect s (readOp act src base s) := by
  rw [readOp_eq act (fun m c => { c with a := fa m c, x := fx m c, y := fy m c, p := fp m c }) h]
  exact .read _ _ (loadOperand_reads src s) (.of_p (hp _ _) (by omega) _ _ _ _ _)

theorem ldaOp_effect (src : Source) {base : Nat} (hb : 2 ≤ base) (s : State) : Effect s (ldaOp src base s) :=
  readOp_effect _ (fun m _ => m) (fun _ c => c.x) (fun _ c => c.y) (fun m c => setZN m c.p) (fun _ _ => rfl)
    (fun _ _ => storedKept_setZN _ _) src hb s

theorem ldxOp_effect (src : Source) {base : Nat} (hb : 2 ≤ base) (s : State) : Effect s (ldxOp src base s) :=
  readOp_effect _ (fun _ c => c.a) (fun m _ => m) (fun _ c => c.y) (fun m c => setZN m c.p) (fun _ _ => rfl)
    (fun _ _ => storedKept_setZN _ _) src hb s

theorem ldyOp_effect (src : Source) {base : Nat} (hb : 2 ≤ base) (s : State) : Effect s (ldyOp src base s) :=
  readOp_effect _ (fun _ c => c.a) (fun _ c => c.x) (fun m _ => m) (fun m c => setZN m c.p) (fun _ _ => rfl)
    (fun _ _ => storedKept_setZN _ _) src hb s

theorem adcOp_effect (src : Source) {base : Nat} (hb : 2 ≤ base) (s : State) : Effect s (adcOp src base s) :=
  readOp_effect _ (fun m c => addResult c.a m (Flag.c.get c.p)) (fun _ c => c.x) (fun _ c => c.y)
    (fun m c => addStatus c.a m c.p) (fun _ _ => rfl) (fun _ _ => storedKept_addStatus _ _ _) src hb s

theorem sbcOp_effect (src : Source) {base : Nat} (hb : 2 ≤ base) (s : State) : Effect s (sbcOp src base s) :=
  readOp_effect _ (fun m c => addResult c.a (m ^^^ 0xFF) (Flag.c.get c.p)) (fun _ c => c.x) (fun _ c => c.y)
    (fun m c => addStatus c.a (m ^^^ 0xFF) c.p) (fun _ _ => rfl) (fun _ _ => storedKept_addStatus _ _ _) src hb s

theorem cmpOp_effect (src : Source) {base : Nat} (hb : 2 ≤ base) (s : State) : Effect s (cmpOp src base s) :=
  readOp_effect _ (fun _ c => c.a) (fun _ c => c.x) (fun _ c => c.y) (fun m c => compareStatus c.a m c.p)
    (fun _ _ => rfl) (fun _ _ => storedKept_compareStatus _ _ _) src hb s

theorem cpxOp_effect (src : Source) {base : Nat} (hb : 2 ≤ base) (s : State) : Effect s (cpxOp src base s) :=
  readOp_effect _ (fun _ c => c.a) (fun _ c => c.x) (fun _ c => c.y) (fun m c => compareStatus c.x m c.p)
    (fun _ _ => rfl) (fun _ _ => storedKept_compareStatus _ _ _) src hb s

theorem cpyOp_effect (src : Source) {base : Nat} (hb : 2 ≤ base) (s : State) : Effect s (cpyOp src base s) :=
  readOp_effect _ (fun _ c => c.a) (fun _ c => c.x) (fun _ c => c.y) (fun m c => compareStatus c.y m c.p)
    (fun _ _ => rfl) (fun _ _ => storedKept_compareStatus _ _ _) src hb s

theorem andOp_effect (src : Source) {base : Nat} (hb : 2 ≤ base) (s : State) : Effect s (andOp src base s) :=
  readOp_effect _ (fun m c => c.a &&& m) (fun _ c => c.x) (fun _ c => c.y) (fun m c => setZN (c.a &&& m) c.p)
    (fun _ _ => rfl) (fun _ _ => storedKept_setZN _ _) src hb s

theorem oraOp_effect (src : Source) {base : Nat} (hb : 2 ≤ base) (s : State) : Effect s (oraOp src base s) :=
  readOp_effect _ (fun m c => c.a ||| m) (fun _ c => c.x) (fun _ c => c.y) (fun m c => setZN (c.a ||| m) c.p)
    (fun _ _ => rfl) (fun _ _ => storedKept_setZN _ _) src hb s

theorem eorOp_effect (src : Source) {base : Nat} (hb : 2 ≤ base) (s : State) : Effect s (eorOp src base s) :=
  readOp_effect _ (fun m c => c.a ^^^ m) (fun _ c => c.x) (fun _ c => c.y) (fun m c => setZN (c.a ^^^ m) c.p)
    (fun _ _ => rfl) (fun _ _ => storedKept_setZN _ _) src hb s

theorem bitOp_effect (src : Source) {base : Nat} (hb : 2 ≤ base) (s : State) : Effect s (bitOp src base s) :=
  readOp_effect _ (fun _ c => c.a) (fun _ c => c.x) (fun _ c => c.y) (fun m c => bitTestStatus c.a m c.p)
    (fun _ _ => rfl) (fun _ _ => storedKept_bitTestStatus _ _ _) src hb s

/-- A store. -/
theorem storeOp_effect (v : Byte) (m : MemMode) {base : Nat} (hb : 2 ≤ base) (s : State) :
    Effect s (storeOp v m base s) := by
  rw [storeOp_eq]
  exact .write s _ v _ .refl (.of_p ⟨rfl, rfl⟩ hb _ _ _ _ _)

/-- A read-modify-write instruction. -/
theorem modifyOp_effect {f : Byte → Byte → Byte × Byte} (hf : ∀ m p, StoredKept p (f m p).2) (pl : Place) {base : Nat}
    (hb : 2 ≤ base) (s : State) : Effect s (modifyOp f pl base s) := by
  cases pl with
  | acc => exact .ofCpu s (.of_p (hf _ _) hb _ _ _ _ _)
  | mem m =>
    rw [modifyOp_mem]
    have hk := memWrite_kept (effAddr m s).addr (f (memRead (effAddr m s).addr s).1 s.cpu.p).1
      (memRead (effAddr m s).addr s).2
    refine .write _ _ _ _ (.read .refl _) (.of_p ?_ hb _ _ _ _ _)
    have hp := congrArg Cpu.p hk.cpu
    simp only [memRead_cpu] at hp
    rw [hp]
    exact hf _ _

theorem incOp_effect (pl : Place) {base : Nat} (hb : 2 ≤ base) (s : State) : Effect s (incOp pl base s) :=
  modifyOp_effect (f := incByte) (fun m p => storedKept_setZN (m + 1) p) pl hb s

theorem decOp_effect (pl : Place) {base : Nat} (hb : 2 ≤ base) (s : State) : Effect s (decOp pl base s) :=
  modifyOp_effect (f := decByte) (fun m p => storedKept_setZN (m - 1) p) pl hb s

theorem aslOp_effect (pl : Place) {base : Nat} (hb : 2 ≤ base) (s : State) : Effect s (aslOp pl base s) :=
  modifyOp_effect (f := aslByte) (fun m p => storedKept_carryZN (m.getLsbD 7) (aslByte m p).1 p) pl hb s

theorem lsrOp_effect (pl : Place) {base : Nat} (hb : 2 ≤ base) (s : State) : Effect s (lsrOp pl base s) :=
  modifyOp_effect (f := lsrByte) (fun m p => storedKept_carryZN (m.getLsbD 0) (lsrByte m p).1 p) pl hb s

theorem rolOp_effect (pl : Place) {base : Nat} (hb : 2 ≤ base) (s : State) : Effect s (rolOp pl base s) :=
  modifyOp_effect (f := rolByte) (fun m p => storedKept_carryZN (m.getLsbD 7) (rolByte m p).1 p) pl hb s

theorem rorOp_effect (pl : Place) {base : Nat} (hb : 2 ≤ base) (s : State) : Effect s (rorOp pl base s) :=
  modifyOp_effect (f := rorByte) (fun m p => storedKept_carryZN (m.getLsbD 0) (rorByte m p).1 p) pl hb s

theorem branchOp_effect (f : Flag) (wanted : Bool) (d : Byte) (s : State) : Effect s (branchOp f wanted d s) := by
  unfold branchOp
  split
  · exact .ofCpu s (.of_p ⟨rfl, rfl⟩ (by omega) _ _ _ _ _)
  · exact .ofCpu s (.of_p ⟨rfl, rfl⟩ (by decide) _ _ _ _ _)

/-- A register or flag instruction of the CPU alone. -/
theorem setCpu_effect (s : State) {p : Byte} (hp : StoredKept s.cpu.p p) {n : Nat} (hn : 2 ≤ n) (a x y sp : Byte)
    (pc : Word) :
    Effect s { s with
      cpu := { s.cpu with a := a, x := x, y := y, sp := sp, pc := pc, p := p, cycles := s.cpu.cycles + n } } :=
  .ofCpu s (.of_p hp hn _ _ _ _ _)

theorem loadA_effect (v : Byte) (s : State) : Effect s ((s.loadA v).addCycles 2) :=
  setCpu_effect s (storedKept_setZN _ _) (by decide) _ _ _ _ _

theorem loadX_effect (v : Byte) (s : State) : Effect s ((s.loadX v).addCycles 2) :=
  setCpu_effect s (storedKept_setZN _ _) (by decide) _ _ _ _ _

theorem loadY_effect (v : Byte) (s : State) : Effect s ((s.loadY v).addCycles 2) :=
  setCpu_effect s (storedKept_setZN _ _) (by decide) _ _ _ _ _

theorem setFlag_effect {f : Flag} (hu : f ≠ .u) (hb : f ≠ .b) (v : Bool) (s : State) :
    Effect s ((s.setFlag f v).addCycles 2) :=
  setCpu_effect s (storedKept_put hu hb _ _) (by decide) _ _ _ _ _

theorem push_effect (v : Byte) (s : State) : Effect s ((push v s).addCycles 3) := by
  rw [push_eq]
  exact .stack _ s.cart _ (.push (.none _) _ _) (.refl _) (.of_p ⟨rfl, rfl⟩ (by decide) _ _ _ _ _)

theorem jmpInd_effect (d16 : Word) (s : State) :
    Effect s (((memRead16PW d16 s).2.setPC (memRead16PW d16 s).1).addCycles 5) := by
  refine .read (memRead16PW d16 s).2 _ (.read (.read .refl _) _) ?_
  have hc : (memRead16PW d16 s).2.cpu = s.cpu := by simp [memRead16PW, readPair]
  simp only [State.setPC, hc]
  exact .of_p ⟨rfl, rfl⟩ (by decide) _ _ _ _ _

/-- What an instruction can do. -/
theorem exec_effect {i : Instr} {s t : State} (h : exec i s = .next t) : Effect s t := by
  cases i <;> obtain rfl := Host.Outcome.next.inj h <;> try with_reducible first
    | exact ldaOp_effect _ (by decide) s
    | exact ldxOp_effect _ (by decide) s
    | exact ldyOp_effect _ (by decide) s
    | exact adcOp_effect _ (by decide) s
    | exact sbcOp_effect _ (by decide) s
    | exact cmpOp_effect _ (by decide) s
    | exact cpxOp_effect _ (by decide) s
    | exact cpyOp_effect _ (by decide) s
    | exact andOp_effect _ (by decide) s
    | exact oraOp_effect _ (by decide) s
    | exact eorOp_effect _ (by decide) s
    | exact bitOp_effect _ (by decide) s
    | exact incOp_effect _ (by decide) s
    | exact decOp_effect _ (by decide) s
    | exact aslOp_effect _ (by decide) s
    | exact lsrOp_effect _ (by decide) s
    | exact rolOp_effect _ (by decide) s
    | exact rorOp_effect _ (by decide) s
    | exact branchOp_effect _ _ _ s
    | exact loadA_effect _ s
    | exact loadX_effect _ s
    | exact loadY_effect _ s
    | exact setFlag_effect (by decide) (by decide) _ s
    | exact push_effect _ s
    | exact jmpInd_effect _ s
  case staZp | staZpx | staAbs | staAbx | staAby | staIzx | staIzy | stxZp | stxZpy | stxAbs | styZp | styZpx | styAbs =>
    exact storeOp_effect _ _ (by decide) s
  case txs => exact setCpu_effect s ⟨rfl, rfl⟩ (by decide) _ _ _ _ _
  case nop => exact setCpu_effect s ⟨rfl, rfl⟩ (by decide) _ _ _ _ _
  case jmpAbs => exact setCpu_effect s ⟨rfl, rfl⟩ (by decide) _ _ _ _ _
  case pla =>
    rw [pull_eq]
    exact setCpu_effect s (storedKept_setZN _ _) (by decide) _ _ _ _ _
  case plp =>
    rw [pullStatus, pull_eq]
    exact setCpu_effect s (storedKept_statusPulled _ _) (by decide) _ _ _ _ _
  case rts =>
    rw [pullWord_eq]
    exact setCpu_effect s ⟨rfl, rfl⟩ (by decide) _ _ _ _ _
  case rti =>
    rw [returnFromInterrupt_eq]
    exact setCpu_effect s (storedKept_statusPulled _ _) (by decide) _ _ _ _ _
  case jsr =>
    rw [pushWord_eq]
    exact .stack _ s.cart _ (.push (.push (.none _) _ _) _ _) (.refl _) (.of_p ⟨rfl, rfl⟩ (by decide) _ _ _ _ _)
  case brk =>
    rw [takeInterrupt_eq (by decide) (by decide)]
    exact .stack _ _ _ (.push (.push (.push (.none _) _ _) _ _) _ _) (Cart.readWord_read _ _)
      (.of_p (storedKept_put (by decide) (by decide) _ _) (by decide) _ _ _ _ _)

end Sys2Proof.Machine
end

