-- ==== Sys2Proof/Laws/PerInstr.lean ====
section
/-! SUPPORT. Facts about each instruction as syntax, one lemma for each constructor. -/

namespace Sys2Proof.Laws

/-- Decoding the bytes of `i`, whatever follows them, gives `i` back and leaves what follows. -/
def RoundTrip.Statement (i : Instr) : Prop :=
  ∀ rest : List Byte, decode (encode i ++ rest) = .ok (i, rest)

/-- The bytes of `i` are exactly one instruction in the sense of `wellFormedBytes` (R100, R128), and as many as its
length says. -/
def OpcodeByte.Statement (i : Instr) : Prop :=
  wellFormedBytes (encode i) = true ∧ (encode i).length = i.length

theorem RoundTrip.ldaImm (d : Byte) : RoundTrip.Statement (.ldaImm d) := fun _ => rfl
theorem RoundTrip.ldaZp (d : Byte) : RoundTrip.Statement (.ldaZp d) := fun _ => rfl
theorem RoundTrip.ldaZpx (d : Byte) : RoundTrip.Statement (.ldaZpx d) := fun _ => rfl
theorem RoundTrip.ldaAbs (d16 : Word) : RoundTrip.Statement (.ldaAbs d16) := fun rest => by
  show Except.ok (Instr.ldaAbs (Machine.w16 (Machine.hi d16) (Machine.lo d16)), rest) = _
  rw [Machine.w16_hi_lo]
theorem RoundTrip.ldaAbx (d16 : Word) : RoundTrip.Statement (.ldaAbx d16) := fun rest => by
  show Except.ok (Instr.ldaAbx (Machine.w16 (Machine.hi d16) (Machine.lo d16)), rest) = _
  rw [Machine.w16_hi_lo]
theorem RoundTrip.ldaAby (d16 : Word) : RoundTrip.Statement (.ldaAby d16) := fun rest => by
  show Except.ok (Instr.ldaAby (Machine.w16 (Machine.hi d16) (Machine.lo d16)), rest) = _
  rw [Machine.w16_hi_lo]
theorem RoundTrip.ldaIzx (d : Byte) : RoundTrip.Statement (.ldaIzx d) := fun _ => rfl
theorem RoundTrip.ldaIzy (d : Byte) : RoundTrip.Statement (.ldaIzy d) := fun _ => rfl
theorem RoundTrip.ldxImm (d : Byte) : RoundTrip.Statement (.ldxImm d) := fun _ => rfl
theorem RoundTrip.ldxZp (d : Byte) : RoundTrip.Statement (.ldxZp d) := fun _ => rfl
theorem RoundTrip.ldxZpy (d : Byte) : RoundTrip.Statement (.ldxZpy d) := fun _ => rfl
theorem RoundTrip.ldxAbs (d16 : Word) : RoundTrip.Statement (.ldxAbs d16) := fun rest => by
  show Except.ok (Instr.ldxAbs (Machine.w16 (Machine.hi d16) (Machine.lo d16)), rest) = _
  rw [Machine.w16_hi_lo]
theorem RoundTrip.ldxAby (d16 : Word) : RoundTrip.Statement (.ldxAby d16) := fun rest => by
  show Except.ok (Instr.ldxAby (Machine.w16 (Machine.hi d16) (Machine.lo d16)), rest) = _
  rw [Machine.w16_hi_lo]
theorem RoundTrip.ldyImm (d : Byte) : RoundTrip.Statement (.ldyImm d) := fun _ => rfl
theorem RoundTrip.ldyZp (d : Byte) : RoundTrip.Statement (.ldyZp d) := fun _ => rfl
theorem RoundTrip.ldyZpx (d : Byte) : RoundTrip.Statement (.ldyZpx d) := fun _ => rfl
theorem RoundTrip.ldyAbs (d16 : Word) : RoundTrip.Statement (.ldyAbs d16) := fun rest => by
  show Except.ok (Instr.ldyAbs (Machine.w16 (Machine.hi d16) (Machine.lo d16)), rest) = _
  rw [Machine.w16_hi_lo]
theorem RoundTrip.ldyAbx (d16 : Word) : RoundTrip.Statement (.ldyAbx d16) := fun rest => by
  show Except.ok (Instr.ldyAbx (Machine.w16 (Machine.hi d16) (Machine.lo d16)), rest) = _
  rw [Machine.w16_hi_lo]
theorem RoundTrip.staZp (d : Byte) : RoundTrip.Statement (.staZp d) := fun _ => rfl
theorem RoundTrip.staZpx (d : Byte) : RoundTrip.Statement (.staZpx d) := fun _ => rfl
theorem RoundTrip.staAbs (d16 : Word) : RoundTrip.Statement (.staAbs d16) := fun rest => by
  show Except.ok (Instr.staAbs (Machine.w16 (Machine.hi d16) (Machine.lo d16)), rest) = _
  rw [Machine.w16_hi_lo]
theorem RoundTrip.staAbx (d16 : Word) : RoundTrip.Statement (.staAbx d16) := fun rest => by
  show Except.ok (Instr.staAbx (Machine.w16 (Machine.hi d16) (Machine.lo d16)), rest) = _
  rw [Machine.w16_hi_lo]
theorem RoundTrip.staAby (d16 : Word) : RoundTrip.Statement (.staAby d16) := fun rest => by
  show Except.ok (Instr.staAby (Machine.w16 (Machine.hi d16) (Machine.lo d16)), rest) = _
  rw [Machine.w16_hi_lo]
theorem RoundTrip.staIzx (d : Byte) : RoundTrip.Statement (.staIzx d) := fun _ => rfl
theorem RoundTrip.staIzy (d : Byte) : RoundTrip.Statement (.staIzy d) := fun _ => rfl
theorem RoundTrip.stxZp (d : Byte) : RoundTrip.Statement (.stxZp d) := fun _ => rfl
theorem RoundTrip.stxZpy (d : Byte) : RoundTrip.Statement (.stxZpy d) := fun _ => rfl
theorem RoundTrip.stxAbs (d16 : Word) : RoundTrip.Statement (.stxAbs d16) := fun rest => by
  show Except.ok (Instr.stxAbs (Machine.w16 (Machine.hi d16) (Machine.lo d16)), rest) = _
  rw [Machine.w16_hi_lo]
theorem RoundTrip.styZp (d : Byte) : RoundTrip.Statement (.styZp d) := fun _ => rfl
theorem RoundTrip.styZpx (d : Byte) : RoundTrip.Statement (.styZpx d) := fun _ => rfl
theorem RoundTrip.styAbs (d16 : Word) : RoundTrip.Statement (.styAbs d16) := fun rest => by
  show Except.ok (Instr.styAbs (Machine.w16 (Machine.hi d16) (Machine.lo d16)), rest) = _
  rw [Machine.w16_hi_lo]
theorem RoundTrip.tax : RoundTrip.Statement (.tax) := fun _ => rfl
theorem RoundTrip.tay : RoundTrip.Statement (.tay) := fun _ => rfl
theorem RoundTrip.txa : RoundTrip.Statement (.txa) := fun _ => rfl
theorem RoundTrip.tya : RoundTrip.Statement (.tya) := fun _ => rfl
theorem RoundTrip.tsx : RoundTrip.Statement (.tsx) := fun _ => rfl
theorem RoundTrip.txs : RoundTrip.Statement (.txs) := fun _ => rfl
theorem RoundTrip.pha : RoundTrip.Statement (.pha) := fun _ => rfl
theorem RoundTrip.php : RoundTrip.Statement (.php) := fun _ => rfl
theorem RoundTrip.pla : RoundTrip.Statement (.pla) := fun _ => rfl
theorem RoundTrip.plp : RoundTrip.Statement (.plp) := fun _ => rfl
theorem RoundTrip.adcImm (d : Byte) : RoundTrip.Statement (.adcImm d) := fun _ => rfl
theorem RoundTrip.adcZp (d : Byte) : RoundTrip.Statement (.adcZp d) := fun _ => rfl
theorem RoundTrip.adcZpx (d : Byte) : RoundTrip.Statement (.adcZpx d) := fun _ => rfl
theorem RoundTrip.adcAbs (d16 : Word) : RoundTrip.Statement (.adcAbs d16) := fun rest => by
  show Except.ok (Instr.adcAbs (Machine.w16 (Machine.hi d16) (Machine.lo d16)), rest) = _
  rw [Machine.w16_hi_lo]
theorem RoundTrip.adcAbx (d16 : Word) : RoundTrip.Statement (.adcAbx d16) := fun rest => by
  show Except.ok (Instr.adcAbx (Machine.w16 (Machine.hi d16) (Machine.lo d16)), rest) = _
  rw [Machine.w16_hi_lo]
theorem RoundTrip.adcAby (d16 : Word) : RoundTrip.Statement (.adcAby d16) := fun rest => by
  show Except.ok (Instr.adcAby (Machine.w16 (Machine.hi d16) (Machine.lo d16)), rest) = _
  rw [Machine.w16_hi_lo]
theorem RoundTrip.adcIzx (d : Byte) : RoundTrip.Statement (.adcIzx d) := fun _ => rfl
theorem RoundTrip.adcIzy (d : Byte) : RoundTrip.Statement (.adcIzy d) := fun _ => rfl
theorem RoundTrip.sbcImm (d : Byte) : RoundTrip.Statement (.sbcImm d) := fun _ => rfl
theorem RoundTrip.sbcZp (d : Byte) : RoundTrip.Statement (.sbcZp d) := fun _ => rfl
theorem RoundTrip.sbcZpx (d : Byte) : RoundTrip.Statement (.sbcZpx d) := fun _ => rfl
theorem RoundTrip.sbcAbs (d16 : Word) : RoundTrip.Statement (.sbcAbs d16) := fun rest => by
  show Except.ok (Instr.sbcAbs (Machine.w16 (Machine.hi d16) (Machine.lo d16)), rest) = _
  rw [Machine.w16_hi_lo]
theorem RoundTrip.sbcAbx (d16 : Word) : RoundTrip.Statement (.sbcAbx d16) := fun rest => by
  show Except.ok (Instr.sbcAbx (Machine.w16 (Machine.hi d16) (Machine.lo d16)), rest) = _
  rw [Machine.w16_hi_lo]
theorem RoundTrip.sbcAby (d16 : Word) : RoundTrip.Statement (.sbcAby d16) := fun rest => by
  show Except.ok (Instr.sbcAby (Machine.w16 (Machine.hi d16) (Machine.lo d16)), rest) = _
  rw [Machine.w16_hi_lo]
theorem RoundTrip.sbcIzx (d : Byte) : RoundTrip.Statement (.sbcIzx d) := fun _ => rfl
theorem RoundTrip.sbcIzy (d : Byte) : RoundTrip.Statement (.sbcIzy d) := fun _ => rfl
theorem RoundTrip.cmpImm (d : Byte) : RoundTrip.Statement (.cmpImm d) := fun _ => rfl
theorem RoundTrip.cmpZp (d : Byte) : RoundTrip.Statement (.cmpZp d) := fun _ => rfl
theorem RoundTrip.cmpZpx (d : Byte) : RoundTrip.Statement (.cmpZpx d) := fun _ => rfl
theorem RoundTrip.cmpAbs (d16 : Word) : RoundTrip.Statement (.cmpAbs d16) := fun rest => by
  show Except.ok (Instr.cmpAbs (Machine.w16 (Machine.hi d16) (Machine.lo d16)), rest) = _
  rw [Machine.w16_hi_lo]
theorem RoundTrip.cmpAbx (d16 : Word) : RoundTrip.Statement (.cmpAbx d16) := fun rest => by
  show Except.ok (Instr.cmpAbx (Machine.w16 (Machine.hi d16) (Machine.lo d16)), rest) = _
  rw [Machine.w16_hi_lo]
theorem RoundTrip.cmpAby (d16 : Word) : RoundTrip.Statement (.cmpAby d16) := fun rest => by
  show Except.ok (Instr.cmpAby (Machine.w16 (Machine.hi d16) (Machine.lo d16)), rest) = _
  rw [Machine.w16_hi_lo]
theorem RoundTrip.cmpIzx (d : Byte) : RoundTrip.Statement (.cmpIzx d) := fun _ => rfl
theorem RoundTrip.cmpIzy (d : Byte) : RoundTrip.Statement (.cmpIzy d) := fun _ => rfl
theorem RoundTrip.cpxImm (d : Byte) : RoundTrip.Statement (.cpxImm d) := fun _ => rfl
theorem RoundTrip.cpxZp (d : Byte) : RoundTrip.Statement (.cpxZp d) := fun _ => rfl
theorem RoundTrip.cpxAbs (d16 : Word) : RoundTrip.Statement (.cpxAbs d16) := fun rest => by
  show Except.ok (Instr.cpxAbs (Machine.w16 (Machine.hi d16) (Machine.lo d16)), rest) = _
  rw [Machine.w16_hi_lo]
theorem RoundTrip.cpyImm (d : Byte) : RoundTrip.Statement (.cpyImm d) := fun _ => rfl
theorem RoundTrip.cpyZp (d : Byte) : RoundTrip.Statement (.cpyZp d) := fun _ => rfl
theorem RoundTrip.cpyAbs (d16 : Word) : RoundTrip.Statement (.cpyAbs d16) := fun rest => by
  show Except.ok (Instr.cpyAbs (Machine.w16 (Machine.hi d16) (Machine.lo d16)), rest) = _
  rw [Machine.w16_hi_lo]
theorem RoundTrip.incZp (d : Byte) : RoundTrip.Statement (.incZp d) := fun _ => rfl
theorem RoundTrip.incZpx (d : Byte) : RoundTrip.Statement (.incZpx d) := fun _ => rfl
theorem RoundTrip.incAbs (d16 : Word) : RoundTrip.Statement (.incAbs d16) := fun rest => by
  show Except.ok (Instr.incAbs (Machine.w16 (Machine.hi d16) (Machine.lo d16)), rest) = _
  rw [Machine.w16_hi_lo]
theorem RoundTrip.incAbx (d16 : Word) : RoundTrip.Statement (.incAbx d16) := fun rest => by
  show Except.ok (Instr.incAbx (Machine.w16 (Machine.hi d16) (Machine.lo d16)), rest) = _
  rw [Machine.w16_hi_lo]
theorem RoundTrip.inx : RoundTrip.Statement (.inx) := fun _ => rfl
theorem RoundTrip.iny : RoundTrip.Statement (.iny) := fun _ => rfl
theorem RoundTrip.decZp (d : Byte) : RoundTrip.Statement (.decZp d) := fun _ => rfl
theorem RoundTrip.decZpx (d : Byte) : RoundTrip.Statement (.decZpx d) := fun _ => rfl
theorem RoundTrip.decAbs (d16 : Word) : RoundTrip.Statement (.decAbs d16) := fun rest => by
  show Except.ok (Instr.decAbs (Machine.w16 (Machine.hi d16) (Machine.lo d16)), rest) = _
  rw [Machine.w16_hi_lo]
theorem RoundTrip.decAbx (d16 : Word) : RoundTrip.Statement (.decAbx d16) := fun rest => by
  show Except.ok (Instr.decAbx (Machine.w16 (Machine.hi d16) (Machine.lo d16)), rest) = _
  rw [Machine.w16_hi_lo]
theorem RoundTrip.dex : RoundTrip.Statement (.dex) := fun _ => rfl
theorem RoundTrip.dey : RoundTrip.Statement (.dey) := fun _ => rfl
theorem RoundTrip.andImm (d : Byte) : RoundTrip.Statement (.andImm d) := fun _ => rfl
theorem RoundTrip.andZp (d : Byte) : RoundTrip.Statement (.andZp d) := fun _ => rfl
theorem RoundTrip.andZpx (d : Byte) : RoundTrip.Statement (.andZpx d) := fun _ => rfl
theorem RoundTrip.andAbs (d16 : Word) : RoundTrip.Statement (.andAbs d16) := fun rest => by
  show Except.ok (Instr.andAbs (Machine.w16 (Machine.hi d16) (Machine.lo d16)), rest) = _
  rw [Machine.w16_hi_lo]
theorem RoundTrip.andAbx (d16 : Word) : RoundTrip.Statement (.andAbx d16) := fun rest => by
  show Except.ok (Instr.andAbx (Machine.w16 (Machine.hi d16) (Machine.lo d16)), rest) = _
  rw [Machine.w16_hi_lo]
theorem RoundTrip.andAby (d16 : Word) : RoundTrip.Statement (.andAby d16) := fun rest => by
  show Except.ok (Instr.andAby (Machine.w16 (Machine.hi d16) (Machine.lo d16)), rest) = _
  rw [Machine.w16_hi_lo]
theorem RoundTrip.andIzx (d : Byte) : RoundTrip.Statement (.andIzx d) := fun _ => rfl
theorem RoundTrip.andIzy (d : Byte) : RoundTrip.Statement (.andIzy d) := fun _ => rfl
theorem RoundTrip.oraImm (d : Byte) : RoundTrip.Statement (.oraImm d) := fun _ => rfl
theorem RoundTrip.oraZp (d : Byte) : RoundTrip.Statement (.oraZp d) := fun _ => rfl
theorem RoundTrip.oraZpx (d : Byte) : RoundTrip.Statement (.oraZpx d) := fun _ => rfl
theorem RoundTrip.oraAbs (d16 : Word) : RoundTrip.Statement (.oraAbs d16) := fun rest => by
  show Except.ok (Instr.oraAbs (Machine.w16 (Machine.hi d16) (Machine.lo d16)), rest) = _
  rw [Machine.w16_hi_lo]
theorem RoundTrip.oraAbx (d16 : Word) : RoundTrip.Statement (.oraAbx d16) := fun rest => by
  show Except.ok (Instr.oraAbx (Machine.w16 (Machine.hi d16) (Machine.lo d16)), rest) = _
  rw [Machine.w16_hi_lo]
theorem RoundTrip.oraAby (d16 : Word) : RoundTrip.Statement (.oraAby d16) := fun rest => by
  show Except.ok (Instr.oraAby (Machine.w16 (Machine.hi d16) (Machine.lo d16)), rest) = _
  rw [Machine.w16_hi_lo]
theorem RoundTrip.oraIzx (d : Byte) : RoundTrip.Statement (.oraIzx d) := fun _ => rfl
theorem RoundTrip.oraIzy (d : Byte) : RoundTrip.Statement (.oraIzy d) := fun _ => rfl
theorem RoundTrip.eorImm (d : Byte) : RoundTrip.Statement (.eorImm d) := fun _ => rfl
theorem RoundTrip.eorZp (d : Byte) : RoundTrip.Statement (.eorZp d) := fun _ => rfl
theorem RoundTrip.eorZpx (d : Byte) : RoundTrip.Statement (.eorZpx d) := fun _ => rfl
theorem RoundTrip.eorAbs (d16 : Word) : RoundTrip.Statement (.eorAbs d16) := fun rest => by
  show Except.ok (Instr.eorAbs (Machine.w16 (Machine.hi d16) (Machine.lo d16)), rest) = _
  rw [Machine.w16_hi_lo]
theorem RoundTrip.eorAbx (d16 : Word) : RoundTrip.Statement (.eorAbx d16) := fun rest => by
  show Except.ok (Instr.eorAbx (Machine.w16 (Machine.hi d16) (Machine.lo d16)), rest) = _
  rw [Machine.w16_hi_lo]
theorem RoundTrip.eorAby (d16 : Word) : RoundTrip.Statement (.eorAby d16) := fun rest => by
  show Except.ok (Instr.eorAby (Machine.w16 (Machine.hi d16) (Machine.lo d16)), rest) = _
  rw [Machine.w16_hi_lo]
theorem RoundTrip.eorIzx (d : Byte) : RoundTrip.Statement (.eorIzx d) := fun _ => rfl
theorem RoundTrip.eorIzy (d : Byte) : RoundTrip.Statement (.eorIzy d) := fun _ => rfl
theorem RoundTrip.bitZp (d : Byte) : RoundTrip.Statement (.bitZp d) := fun _ => rfl
theorem RoundTrip.bitAbs (d16 : Word) : RoundTrip.Statement (.bitAbs d16) := fun rest => by
  show Except.ok (Instr.bitAbs (Machine.w16 (Machine.hi d16) (Machine.lo d16)), rest) = _
  rw [Machine.w16_hi_lo]
theorem RoundTrip.aslAcc : RoundTrip.Statement (.aslAcc) := fun _ => rfl
theorem RoundTrip.aslZp (d : Byte) : RoundTrip.Statement (.aslZp d) := fun _ => rfl
theorem RoundTrip.aslZpx (d : Byte) : RoundTrip.Statement (.aslZpx d) := fun _ => rfl
theorem RoundTrip.aslAbs (d16 : Word) : RoundTrip.Statement (.aslAbs d16) := fun rest => by
  show Except.ok (Instr.aslAbs (Machine.w16 (Machine.hi d16) (Machine.lo d16)), rest) = _
  rw [Machine.w16_hi_lo]
theorem RoundTrip.aslAbx (d16 : Word) : RoundTrip.Statement (.aslAbx d16) := fun rest => by
  show Except.ok (Instr.aslAbx (Machine.w16 (Machine.hi d16) (Machine.lo d16)), rest) = _
  rw [Machine.w16_hi_lo]
theorem RoundTrip.lsrAcc : RoundTrip.Statement (.lsrAcc) := fun _ => rfl
theorem RoundTrip.lsrZp (d : Byte) : RoundTrip.Statement (.lsrZp d) := fun _ => rfl
theorem RoundTrip.lsrZpx (d : Byte) : RoundTrip.Statement (.lsrZpx d) := fun _ => rfl
theorem RoundTrip.lsrAbs (d16 : Word) : RoundTrip.Statement (.lsrAbs d16) := fun rest => by
  show Except.ok (Instr.lsrAbs (Machine.w16 (Machine.hi d16) (Machine.lo d16)), rest) = _
  rw [Machine.w16_hi_lo]
theorem RoundTrip.lsrAbx (d16 : Word) : RoundTrip.Statement (.lsrAbx d16) := fun rest => by
  show Except.ok (Instr.lsrAbx (Machine.w16 (Machine.hi d16) (Machine.lo d16)), rest) = _
  rw [Machine.w16_hi_lo]
theorem RoundTrip.rolAcc : RoundTrip.Statement (.rolAcc) := fun _ => rfl
theorem RoundTrip.rolZp (d : Byte) : RoundTrip.Statement (.rolZp d) := fun _ => rfl
theorem RoundTrip.rolZpx (d : Byte) : RoundTrip.Statement (.rolZpx d) := fun _ => rfl
theorem RoundTrip.rolAbs (d16 : Word) : RoundTrip.Statement (.rolAbs d16) := fun rest => by
  show Except.ok (Instr.rolAbs (Machine.w16 (Machine.hi d16) (Machine.lo d16)), rest) = _
  rw [Machine.w16_hi_lo]
theorem RoundTrip.rolAbx (d16 : Word) : RoundTrip.Statement (.rolAbx d16) := fun rest => by
  show Except.ok (Instr.rolAbx (Machine.w16 (Machine.hi d16) (Machine.lo d16)), rest) = _
  rw [Machine.w16_hi_lo]
theorem RoundTrip.rorAcc : RoundTrip.Statement (.rorAcc) := fun _ => rfl
theorem RoundTrip.rorZp (d : Byte) : RoundTrip.Statement (.rorZp d) := fun _ => rfl
theorem RoundTrip.rorZpx (d : Byte) : RoundTrip.Statement (.rorZpx d) := fun _ => rfl
theorem RoundTrip.rorAbs (d16 : Word) : RoundTrip.Statement (.rorAbs d16) := fun rest => by
  show Except.ok (Instr.rorAbs (Machine.w16 (Machine.hi d16) (Machine.lo d16)), rest) = _
  rw [Machine.w16_hi_lo]
theorem RoundTrip.rorAbx (d16 : Word) : RoundTrip.Statement (.rorAbx d16) := fun rest => by
  show Except.ok (Instr.rorAbx (Machine.w16 (Machine.hi d16) (Machine.lo d16)), rest) = _
  rw [Machine.w16_hi_lo]
theorem RoundTrip.jmpAbs (d16 : Word) : RoundTrip.Statement (.jmpAbs d16) := fun rest => by
  show Except.ok (Instr.jmpAbs (Machine.w16 (Machine.hi d16) (Machine.lo d16)), rest) = _
  rw [Machine.w16_hi_lo]
theorem RoundTrip.jmpInd (d16 : Word) : RoundTrip.Statement (.jmpInd d16) := fun rest => by
  show Except.ok (Instr.jmpInd (Machine.w16 (Machine.hi d16) (Machine.lo d16)), rest) = _
  rw [Machine.w16_hi_lo]
theorem RoundTrip.jsr (d16 : Word) : RoundTrip.Statement (.jsr d16) := fun rest => by
  show Except.ok (Instr.jsr (Machine.w16 (Machine.hi d16) (Machine.lo d16)), rest) = _
  rw [Machine.w16_hi_lo]
theorem RoundTrip.rts : RoundTrip.Statement (.rts) := fun _ => rfl
theorem RoundTrip.bcc (d : Byte) : RoundTrip.Statement (.bcc d) := fun _ => rfl
theorem RoundTrip.bcs (d : Byte) : RoundTrip.Statement (.bcs d) := fun _ => rfl
theorem RoundTrip.beq (d : Byte) : RoundTrip.Statement (.beq d) := fun _ => rfl
theorem RoundTrip.bne (d : Byte) : RoundTrip.Statement (.bne d) := fun _ => rfl
theorem RoundTrip.bmi (d : Byte) : RoundTrip.Statement (.bmi d) := fun _ => rfl
theorem RoundTrip.bpl (d : Byte) : RoundTrip.Statement (.bpl d) := fun _ => rfl
theorem RoundTrip.bvc (d : Byte) : RoundTrip.Statement (.bvc d) := fun _ => rfl
theorem RoundTrip.bvs (d : Byte) : RoundTrip.Statement (.bvs d) := fun _ => rfl
theorem RoundTrip.clc : RoundTrip.Statement (.clc) := fun _ => rfl
theorem RoundTrip.sec : RoundTrip.Statement (.sec) := fun _ => rfl
theorem RoundTrip.cli : RoundTrip.Statement (.cli) := fun _ => rfl
theorem RoundTrip.sei : RoundTrip.Statement (.sei) := fun _ => rfl
theorem RoundTrip.clv : RoundTrip.Statement (.clv) := fun _ => rfl
theorem RoundTrip.cld : RoundTrip.Statement (.cld) := fun _ => rfl
theorem RoundTrip.sed : RoundTrip.Statement (.sed) := fun _ => rfl
theorem RoundTrip.nop : RoundTrip.Statement (.nop) := fun _ => rfl
theorem RoundTrip.brk : RoundTrip.Statement (.brk) := fun _ => rfl
theorem RoundTrip.rti : RoundTrip.Statement (.rti) := fun _ => rfl

theorem OpcodeByte.ldaImm (d : Byte) : OpcodeByte.Statement (.ldaImm d) := ⟨rfl, rfl⟩
theorem OpcodeByte.ldaZp (d : Byte) : OpcodeByte.Statement (.ldaZp d) := ⟨rfl, rfl⟩
theorem OpcodeByte.ldaZpx (d : Byte) : OpcodeByte.Statement (.ldaZpx d) := ⟨rfl, rfl⟩
theorem OpcodeByte.ldaAbs (d16 : Word) : OpcodeByte.Statement (.ldaAbs d16) := ⟨rfl, rfl⟩
theorem OpcodeByte.ldaAbx (d16 : Word) : OpcodeByte.Statement (.ldaAbx d16) := ⟨rfl, rfl⟩
theorem OpcodeByte.ldaAby (d16 : Word) : OpcodeByte.Statement (.ldaAby d16) := ⟨rfl, rfl⟩
theorem OpcodeByte.ldaIzx (d : Byte) : OpcodeByte.Statement (.ldaIzx d) := ⟨rfl, rfl⟩
theorem OpcodeByte.ldaIzy (d : Byte) : OpcodeByte.Statement (.ldaIzy d) := ⟨rfl, rfl⟩
theorem OpcodeByte.ldxImm (d : Byte) : OpcodeByte.Statement (.ldxImm d) := ⟨rfl, rfl⟩
theorem OpcodeByte.ldxZp (d : Byte) : OpcodeByte.Statement (.ldxZp d) := ⟨rfl, rfl⟩
theorem OpcodeByte.ldxZpy (d : Byte) : OpcodeByte.Statement (.ldxZpy d) := ⟨rfl, rfl⟩
theorem OpcodeByte.ldxAbs (d16 : Word) : OpcodeByte.Statement (.ldxAbs d16) := ⟨rfl, rfl⟩
theorem OpcodeByte.ldxAby (d16 : Word) : OpcodeByte.Statement (.ldxAby d16) := ⟨rfl, rfl⟩
theorem OpcodeByte.ldyImm (d : Byte) : OpcodeByte.Statement (.ldyImm d) := ⟨rfl, rfl⟩
theorem OpcodeByte.ldyZp (d : Byte) : OpcodeByte.Statement (.ldyZp d) := ⟨rfl, rfl⟩
theorem OpcodeByte.ldyZpx (d : Byte) : OpcodeByte.Statement (.ldyZpx d) := ⟨rfl, rfl⟩
theorem OpcodeByte.ldyAbs (d16 : Word) : OpcodeByte.Statement (.ldyAbs d16) := ⟨rfl, rfl⟩
theorem OpcodeByte.ldyAbx (d16 : Word) : OpcodeByte.Statement (.ldyAbx d16) := ⟨rfl, rfl⟩
theorem OpcodeByte.staZp (d : Byte) : OpcodeByte.Statement (.staZp d) := ⟨rfl, rfl⟩
theorem OpcodeByte.staZpx (d : Byte) : OpcodeByte.Statement (.staZpx d) := ⟨rfl, rfl⟩
theorem OpcodeByte.staAbs (d16 : Word) : OpcodeByte.Statement (.staAbs d16) := ⟨rfl, rfl⟩
theorem OpcodeByte.staAbx (d16 : Word) : OpcodeByte.Statement (.staAbx d16) := ⟨rfl, rfl⟩
theorem OpcodeByte.staAby (d16 : Word) : OpcodeByte.Statement (.staAby d16) := ⟨rfl, rfl⟩
theorem OpcodeByte.staIzx (d : Byte) : OpcodeByte.Statement (.staIzx d) := ⟨rfl, rfl⟩
theorem OpcodeByte.staIzy (d : Byte) : OpcodeByte.Statement (.staIzy d) := ⟨rfl, rfl⟩
theorem OpcodeByte.stxZp (d : Byte) : OpcodeByte.Statement (.stxZp d) := ⟨rfl, rfl⟩
theorem OpcodeByte.stxZpy (d : Byte) : OpcodeByte.Statement (.stxZpy d) := ⟨rfl, rfl⟩
theorem OpcodeByte.stxAbs (d16 : Word) : OpcodeByte.Statement (.stxAbs d16) := ⟨rfl, rfl⟩
theorem OpcodeByte.styZp (d : Byte) : OpcodeByte.Statement (.styZp d) := ⟨rfl, rfl⟩
theorem OpcodeByte.styZpx (d : Byte) : OpcodeByte.Statement (.styZpx d) := ⟨rfl, rfl⟩
theorem OpcodeByte.styAbs (d16 : Word) : OpcodeByte.Statement (.styAbs d16) := ⟨rfl, rfl⟩
theorem OpcodeByte.tax : OpcodeByte.Statement (.tax) := ⟨rfl, rfl⟩
theorem OpcodeByte.tay : OpcodeByte.Statement (.tay) := ⟨rfl, rfl⟩
theorem OpcodeByte.txa : OpcodeByte.Statement (.txa) := ⟨rfl, rfl⟩
theorem OpcodeByte.tya : OpcodeByte.Statement (.tya) := ⟨rfl, rfl⟩
theorem OpcodeByte.tsx : OpcodeByte.Statement (.tsx) := ⟨rfl, rfl⟩
theorem OpcodeByte.txs : OpcodeByte.Statement (.txs) := ⟨rfl, rfl⟩
theorem OpcodeByte.pha : OpcodeByte.Statement (.pha) := ⟨rfl, rfl⟩
theorem OpcodeByte.php : OpcodeByte.Statement (.php) := ⟨rfl, rfl⟩
theorem OpcodeByte.pla : OpcodeByte.Statement (.pla) := ⟨rfl, rfl⟩
theorem OpcodeByte.plp : OpcodeByte.Statement (.plp) := ⟨rfl, rfl⟩
theorem OpcodeByte.adcImm (d : Byte) : OpcodeByte.Statement (.adcImm d) := ⟨rfl, rfl⟩
theorem OpcodeByte.adcZp (d : Byte) : OpcodeByte.Statement (.adcZp d) := ⟨rfl, rfl⟩
theorem OpcodeByte.adcZpx (d : Byte) : OpcodeByte.Statement (.adcZpx d) := ⟨rfl, rfl⟩
theorem OpcodeByte.adcAbs (d16 : Word) : OpcodeByte.Statement (.adcAbs d16) := ⟨rfl, rfl⟩
theorem OpcodeByte.adcAbx (d16 : Word) : OpcodeByte.Statement (.adcAbx d16) := ⟨rfl, rfl⟩
theorem OpcodeByte.adcAby (d16 : Word) : OpcodeByte.Statement (.adcAby d16) := ⟨rfl, rfl⟩
theorem OpcodeByte.adcIzx (d : Byte) : OpcodeByte.Statement (.adcIzx d) := ⟨rfl, rfl⟩
theorem OpcodeByte.adcIzy (d : Byte) : OpcodeByte.Statement (.adcIzy d) := ⟨rfl, rfl⟩
theorem OpcodeByte.sbcImm (d : Byte) : OpcodeByte.Statement (.sbcImm d) := ⟨rfl, rfl⟩
theorem OpcodeByte.sbcZp (d : Byte) : OpcodeByte.Statement (.sbcZp d) := ⟨rfl, rfl⟩
theorem OpcodeByte.sbcZpx (d : Byte) : OpcodeByte.Statement (.sbcZpx d) := ⟨rfl, rfl⟩
theorem OpcodeByte.sbcAbs (d16 : Word) : OpcodeByte.Statement (.sbcAbs d16) := ⟨rfl, rfl⟩
theorem OpcodeByte.sbcAbx (d16 : Word) : OpcodeByte.Statement (.sbcAbx d16) := ⟨rfl, rfl⟩
theorem OpcodeByte.sbcAby (d16 : Word) : OpcodeByte.Statement (.sbcAby d16) := ⟨rfl, rfl⟩
theorem OpcodeByte.sbcIzx (d : Byte) : OpcodeByte.Statement (.sbcIzx d) := ⟨rfl, rfl⟩
theorem OpcodeByte.sbcIzy (d : Byte) : OpcodeByte.Statement (.sbcIzy d) := ⟨rfl, rfl⟩
theorem OpcodeByte.cmpImm (d : Byte) : OpcodeByte.Statement (.cmpImm d) := ⟨rfl, rfl⟩
theorem OpcodeByte.cmpZp (d : Byte) : OpcodeByte.Statement (.cmpZp d) := ⟨rfl, rfl⟩
theorem OpcodeByte.cmpZpx (d : Byte) : OpcodeByte.Statement (.cmpZpx d) := ⟨rfl, rfl⟩
theorem OpcodeByte.cmpAbs (d16 : Word) : OpcodeByte.Statement (.cmpAbs d16) := ⟨rfl, rfl⟩
theorem OpcodeByte.cmpAbx (d16 : Word) : OpcodeByte.Statement (.cmpAbx d16) := ⟨rfl, rfl⟩
theorem OpcodeByte.cmpAby (d16 : Word) : OpcodeByte.Statement (.cmpAby d16) := ⟨rfl, rfl⟩
theorem OpcodeByte.cmpIzx (d : Byte) : OpcodeByte.Statement (.cmpIzx d) := ⟨rfl, rfl⟩
theorem OpcodeByte.cmpIzy (d : Byte) : OpcodeByte.Statement (.cmpIzy d) := ⟨rfl, rfl⟩
theorem OpcodeByte.cpxImm (d : Byte) : OpcodeByte.Statement (.cpxImm d) := ⟨rfl, rfl⟩
theorem OpcodeByte.cpxZp (d : Byte) : OpcodeByte.Statement (.cpxZp d) := ⟨rfl, rfl⟩
theorem OpcodeByte.cpxAbs (d16 : Word) : OpcodeByte.Statement (.cpxAbs d16) := ⟨rfl, rfl⟩
theorem OpcodeByte.cpyImm (d : Byte) : OpcodeByte.Statement (.cpyImm d) := ⟨rfl, rfl⟩
theorem OpcodeByte.cpyZp (d : Byte) : OpcodeByte.Statement (.cpyZp d) := ⟨rfl, rfl⟩
theorem OpcodeByte.cpyAbs (d16 : Word) : OpcodeByte.Statement (.cpyAbs d16) := ⟨rfl, rfl⟩
theorem OpcodeByte.incZp (d : Byte) : OpcodeByte.Statement (.incZp d) := ⟨rfl, rfl⟩
theorem OpcodeByte.incZpx (d : Byte) : OpcodeByte.Statement (.incZpx d) := ⟨rfl, rfl⟩
theorem OpcodeByte.incAbs (d16 : Word) : OpcodeByte.Statement (.incAbs d16) := ⟨rfl, rfl⟩
theorem OpcodeByte.incAbx (d16 : Word) : OpcodeByte.Statement (.incAbx d16) := ⟨rfl, rfl⟩
theorem OpcodeByte.inx : OpcodeByte.Statement (.inx) := ⟨rfl, rfl⟩
theorem OpcodeByte.iny : OpcodeByte.Statement (.iny) := ⟨rfl, rfl⟩
theorem OpcodeByte.decZp (d : Byte) : OpcodeByte.Statement (.decZp d) := ⟨rfl, rfl⟩
theorem OpcodeByte.decZpx (d : Byte) : OpcodeByte.Statement (.decZpx d) := ⟨rfl, rfl⟩
theorem OpcodeByte.decAbs (d16 : Word) : OpcodeByte.Statement (.decAbs d16) := ⟨rfl, rfl⟩
theorem OpcodeByte.decAbx (d16 : Word) : OpcodeByte.Statement (.decAbx d16) := ⟨rfl, rfl⟩
theorem OpcodeByte.dex : OpcodeByte.Statement (.dex) := ⟨rfl, rfl⟩
theorem OpcodeByte.dey : OpcodeByte.Statement (.dey) := ⟨rfl, rfl⟩
theorem OpcodeByte.andImm (d : Byte) : OpcodeByte.Statement (.andImm d) := ⟨rfl, rfl⟩
theorem OpcodeByte.andZp (d : Byte) : OpcodeByte.Statement (.andZp d) := ⟨rfl, rfl⟩
theorem OpcodeByte.andZpx (d : Byte) : OpcodeByte.Statement (.andZpx d) := ⟨rfl, rfl⟩
theorem OpcodeByte.andAbs (d16 : Word) : OpcodeByte.Statement (.andAbs d16) := ⟨rfl, rfl⟩
theorem OpcodeByte.andAbx (d16 : Word) : OpcodeByte.Statement (.andAbx d16) := ⟨rfl, rfl⟩
theorem OpcodeByte.andAby (d16 : Word) : OpcodeByte.Statement (.andAby d16) := ⟨rfl, rfl⟩
theorem OpcodeByte.andIzx (d : Byte) : OpcodeByte.Statement (.andIzx d) := ⟨rfl, rfl⟩
theorem OpcodeByte.andIzy (d : Byte) : OpcodeByte.Statement (.andIzy d) := ⟨rfl, rfl⟩
theorem OpcodeByte.oraImm (d : Byte) : OpcodeByte.Statement (.oraImm d) := ⟨rfl, rfl⟩
theorem OpcodeByte.oraZp (d : Byte) : OpcodeByte.Statement (.oraZp d) := ⟨rfl, rfl⟩
theorem OpcodeByte.oraZpx (d : Byte) : OpcodeByte.Statement (.oraZpx d) := ⟨rfl, rfl⟩
theorem OpcodeByte.oraAbs (d16 : Word) : OpcodeByte.Statement (.oraAbs d16) := ⟨rfl, rfl⟩
theorem OpcodeByte.oraAbx (d16 : Word) : OpcodeByte.Statement (.oraAbx d16) := ⟨rfl, rfl⟩
theorem OpcodeByte.oraAby (d16 : Word) : OpcodeByte.Statement (.oraAby d16) := ⟨rfl, rfl⟩
theorem OpcodeByte.oraIzx (d : Byte) : OpcodeByte.Statement (.oraIzx d) := ⟨rfl, rfl⟩
theorem OpcodeByte.oraIzy (d : Byte) : OpcodeByte.Statement (.oraIzy d) := ⟨rfl, rfl⟩
theorem OpcodeByte.eorImm (d : Byte) : OpcodeByte.Statement (.eorImm d) := ⟨rfl, rfl⟩
theorem OpcodeByte.eorZp (d : Byte) : OpcodeByte.Statement (.eorZp d) := ⟨rfl, rfl⟩
theorem OpcodeByte.eorZpx (d : Byte) : OpcodeByte.Statement (.eorZpx d) := ⟨rfl, rfl⟩
theorem OpcodeByte.eorAbs (d16 : Word) : OpcodeByte.Statement (.eorAbs d16) := ⟨rfl, rfl⟩
theorem OpcodeByte.eorAbx (d16 : Word) : OpcodeByte.Statement (.eorAbx d16) := ⟨rfl, rfl⟩
theorem OpcodeByte.eorAby (d16 : Word) : OpcodeByte.Statement (.eorAby d16) := ⟨rfl, rfl⟩
theorem OpcodeByte.eorIzx (d : Byte) : OpcodeByte.Statement (.eorIzx d) := ⟨rfl, rfl⟩
theorem OpcodeByte.eorIzy (d : Byte) : OpcodeByte.Statement (.eorIzy d) := ⟨rfl, rfl⟩
theorem OpcodeByte.bitZp (d : Byte) : OpcodeByte.Statement (.bitZp d) := ⟨rfl, rfl⟩
theorem OpcodeByte.bitAbs (d16 : Word) : OpcodeByte.Statement (.bitAbs d16) := ⟨rfl, rfl⟩
theorem OpcodeByte.aslAcc : OpcodeByte.Statement (.aslAcc) := ⟨rfl, rfl⟩
theorem OpcodeByte.aslZp (d : Byte) : OpcodeByte.Statement (.aslZp d) := ⟨rfl, rfl⟩
theorem OpcodeByte.aslZpx (d : Byte) : OpcodeByte.Statement (.aslZpx d) := ⟨rfl, rfl⟩
theorem OpcodeByte.aslAbs (d16 : Word) : OpcodeByte.Statement (.aslAbs d16) := ⟨rfl, rfl⟩
theorem OpcodeByte.aslAbx (d16 : Word) : OpcodeByte.Statement (.aslAbx d16) := ⟨rfl, rfl⟩
theorem OpcodeByte.lsrAcc : OpcodeByte.Statement (.lsrAcc) := ⟨rfl, rfl⟩
theorem OpcodeByte.lsrZp (d : Byte) : OpcodeByte.Statement (.lsrZp d) := ⟨rfl, rfl⟩
theorem OpcodeByte.lsrZpx (d : Byte) : OpcodeByte.Statement (.lsrZpx d) := ⟨rfl, rfl⟩
theorem OpcodeByte.lsrAbs (d16 : Word) : OpcodeByte.Statement (.lsrAbs d16) := ⟨rfl, rfl⟩
theorem OpcodeByte.lsrAbx (d16 : Word) : OpcodeByte.Statement (.lsrAbx d16) := ⟨rfl, rfl⟩
theorem OpcodeByte.rolAcc : OpcodeByte.Statement (.rolAcc) := ⟨rfl, rfl⟩
theorem OpcodeByte.rolZp (d : Byte) : OpcodeByte.Statement (.rolZp d) := ⟨rfl, rfl⟩
theorem OpcodeByte.rolZpx (d : Byte) : OpcodeByte.Statement (.rolZpx d) := ⟨rfl, rfl⟩
theorem OpcodeByte.rolAbs (d16 : Word) : OpcodeByte.Statement (.rolAbs d16) := ⟨rfl, rfl⟩
theorem OpcodeByte.rolAbx (d16 : Word) : OpcodeByte.Statement (.rolAbx d16) := ⟨rfl, rfl⟩
theorem OpcodeByte.rorAcc : OpcodeByte.Statement (.rorAcc) := ⟨rfl, rfl⟩
theorem OpcodeByte.rorZp (d : Byte) : OpcodeByte.Statement (.rorZp d) := ⟨rfl, rfl⟩
theorem OpcodeByte.rorZpx (d : Byte) : OpcodeByte.Statement (.rorZpx d) := ⟨rfl, rfl⟩
theorem OpcodeByte.rorAbs (d16 : Word) : OpcodeByte.Statement (.rorAbs d16) := ⟨rfl, rfl⟩
theorem OpcodeByte.rorAbx (d16 : Word) : OpcodeByte.Statement (.rorAbx d16) := ⟨rfl, rfl⟩
theorem OpcodeByte.jmpAbs (d16 : Word) : OpcodeByte.Statement (.jmpAbs d16) := ⟨rfl, rfl⟩
theorem OpcodeByte.jmpInd (d16 : Word) : OpcodeByte.Statement (.jmpInd d16) := ⟨rfl, rfl⟩
theorem OpcodeByte.jsr (d16 : Word) : OpcodeByte.Statement (.jsr d16) := ⟨rfl, rfl⟩
theorem OpcodeByte.rts : OpcodeByte.Statement (.rts) := ⟨rfl, rfl⟩
theorem OpcodeByte.bcc (d : Byte) : OpcodeByte.Statement (.bcc d) := ⟨rfl, rfl⟩
theorem OpcodeByte.bcs (d : Byte) : OpcodeByte.Statement (.bcs d) := ⟨rfl, rfl⟩
theorem OpcodeByte.beq (d : Byte) : OpcodeByte.Statement (.beq d) := ⟨rfl, rfl⟩
theorem OpcodeByte.bne (d : Byte) : OpcodeByte.Statement (.bne d) := ⟨rfl, rfl⟩
theorem OpcodeByte.bmi (d : Byte) : OpcodeByte.Statement (.bmi d) := ⟨rfl, rfl⟩
theorem OpcodeByte.bpl (d : Byte) : OpcodeByte.Statement (.bpl d) := ⟨rfl, rfl⟩
theorem OpcodeByte.bvc (d : Byte) : OpcodeByte.Statement (.bvc d) := ⟨rfl, rfl⟩
theorem OpcodeByte.bvs (d : Byte) : OpcodeByte.Statement (.bvs d) := ⟨rfl, rfl⟩
theorem OpcodeByte.clc : OpcodeByte.Statement (.clc) := ⟨rfl, rfl⟩
theorem OpcodeByte.sec : OpcodeByte.Statement (.sec) := ⟨rfl, rfl⟩
theorem OpcodeByte.cli : OpcodeByte.Statement (.cli) := ⟨rfl, rfl⟩
theorem OpcodeByte.sei : OpcodeByte.Statement (.sei) := ⟨rfl, rfl⟩
theorem OpcodeByte.clv : OpcodeByte.Statement (.clv) := ⟨rfl, rfl⟩
theorem OpcodeByte.cld : OpcodeByte.Statement (.cld) := ⟨rfl, rfl⟩
theorem OpcodeByte.sed : OpcodeByte.Statement (.sed) := ⟨rfl, rfl⟩
theorem OpcodeByte.nop : OpcodeByte.Statement (.nop) := ⟨rfl, rfl⟩
theorem OpcodeByte.brk : OpcodeByte.Statement (.brk) := ⟨rfl, rfl⟩
theorem OpcodeByte.rti : OpcodeByte.Statement (.rti) := ⟨rfl, rfl⟩

end Sys2Proof.Laws
end

