-- ==== Sys2Proof/Laws/Sound.lean ====
section
/-! SUPPORT. Every memory operation keeps the canonical form and the range of the memories: one bus read, one bus write,
an OAM DMA, a stack store, a tick, the move of the NMI request, a reset. And reset memory has the form. -/

namespace Sys2Proof.Machine

/-- The sound PPU memories: the part of `MemoriesSound` that lies in the PPU. -/
structure PpuSound (p : Ppu) : Prop where
  nt_wf      : Memory.wf p.nt
  nt_size    : Memory.below 0x1000 p.nt
  pal_wf     : Memory.wf p.pal
  pal_size   : Memory.below 32 p.pal
  pal_six    : ∀ c ∈ p.pal, c.2.toNat < 64
  oam_wf     : Memory.wf p.oam
  oam_size   : Memory.below 256 p.oam
  back_wf    : Memory.wf p.back
  back_size  : Memory.below 61440 p.back
  front_wf   : Memory.wf p.front
  front_size : Memory.below 61440 p.front

/-- The sound cartridge memories: those of the no-bank-switching variant. -/
def CartSound (c : Cart) : Prop := ∀ q, c = .plain q → q.MemoriesSound

theorem State.memoriesSound_iff {s : State} :
    s.MemoriesSound ↔ (Memory.wf s.ram ∧ Memory.below 0x800 s.ram) ∧ PpuSound s.ppu ∧ CartSound s.cart :=
  ⟨fun h => ⟨⟨h.1, h.2⟩, ⟨h.3, h.4, h.5, h.6, h.7, h.8, h.9, h.10, h.11, h.12, h.13⟩, h.14⟩,
   fun ⟨⟨h1, h2⟩, ⟨h3, h4, h5, h6, h7, h8, h9, h10, h11, h12, h13⟩, h14⟩ =>
    ⟨h1, h2, h3, h4, h5, h6, h7, h8, h9, h10, h11, h12, h13, h14⟩⟩

/-- Soundness looks at memories only. -/
theorem State.MemoriesSound.congr {s t : State} (h : s.MemoriesSound) (hr : t.ram = s.ram) (hp : PpuSound t.ppu)
    (hc : CartSound t.cart) : t.MemoriesSound := by
  rw [State.memoriesSound_iff] at *
  rw [hr]
  exact ⟨h.1, hp, hc⟩

/-! ### The cartridge -/

theorem PlainCart.MemoriesSound.prgRamWrite {c : PlainCart} (h : c.MemoriesSound) (n : Nat) (v : Byte) :
    (c.prgRamWrite n v).MemoriesSound := by
  unfold PlainCart.prgRamWrite
  split
  · rename_i m hm
    obtain ⟨h1, h2⟩ := h.prgRam_wf m hm
    refine ⟨h.1, h.2, h.3, h.4, h.5, fun m' hm' => ?_⟩
    obtain rfl := Option.some.inj hm'
    exact ⟨Memory.wf_write h1 _ _, Memory.below_write h2 (Nat.mod_lt _ (by decide)) _⟩
  · exact h

theorem CartSound.of_plain {q : PlainCart} (h : q.MemoriesSound) : CartSound (.plain q) := fun _ e => Cart.plain.inj e ▸ h

/-- A read leaves the no-bank-switching variant as it is. -/
theorem CartRead.sound {c d : Cart} (h : CartRead c d) (hc : CartSound c) : CartSound d := by
  cases c with
  | plain q => rw [h.plain]; exact hc
  | other o => rw [h]; exact fun _ e => nomatch e

theorem CartSound.writePrg {c : Cart} (h : CartSound c) (a : Word) (v : Byte) : CartSound (c.writePrg a v) := by
  cases c with
  | plain q =>
    refine .of_plain ?_
    unfold PlainCart.writePrg
    split
    · exact (h q rfl).prgRamWrite _ _
    · exact h q rfl
  | other o => exact fun _ e => nomatch e

theorem CartSound.writeChr {c : Cart} (h : CartSound c) {a : Nat} (ha : a < 8192) (v : Byte) :
    CartSound (c.writeChr a v) := by
  cases c with
  | plain q =>
    have hq := h q rfl
    refine .of_plain ?_
    unfold PlainCart.writeChr
    split
    · exact ⟨hq.1, hq.2, hq.3, Memory.wf_write hq.4 _ _, Memory.below_write hq.5 (Nat.lt_of_lt_of_le ha hq.3) _, hq.6⟩
    · exact hq
  | other o => exact fun _ e => nomatch e

/-! ### The PPU's memories -/

theorem ntOffset_lt (cfg : Params) (mode : Mirroring) (a : PpuAddr) : ntOffset cfg mode a < 0x1000 := by
  have h : nametablePage cfg mode (a.toNat / 1024 % 4) ≤ 3 := by
    unfold nametablePage
    split <;> omega
  unfold ntOffset
  omega

theorem palIndex_lt (a : PpuAddr) : palIndex a < 32 := by
  unfold palIndex
  dsimp only
  split <;> omega

theorem ppuWrite_sound {cfg : Params} {c : Cart} {p : Ppu} (hc : CartSound c) (h : PpuSound p) (a : PpuAddr) (v : Byte) :
    PpuSound (ppuWrite cfg c p a v).1 ∧ CartSound (ppuWrite cfg c p a v).2 := by
  unfold ppuWrite
  split
  · exact ⟨h, hc.writeChr (by omega) v⟩
  · split
    · exact ⟨⟨Memory.wf_write h.1 _ _, Memory.below_write h.2 (ntOffset_lt _ _ _) _, h.3, h.4, h.5, h.6, h.7, h.8, h.9,
        h.10, h.11⟩, hc⟩
    · refine ⟨⟨h.1, h.2, Memory.wf_write h.3 _ _, Memory.below_write h.4 (palIndex_lt a) _, ?_, h.6, h.7, h.8, h.9,
        h.10, h.11⟩, hc⟩
      refine Memory.values_write (p := fun v => v.toNat < 64) h.5 ?_
      rw [BitVec.toNat_and]
      exact Nat.lt_of_le_of_lt Nat.and_le_right (by decide)

theorem ppuRegWrite_sound {cfg : Params} {c : Cart} {p : Ppu} (hc : CartSound c) (h : PpuSound p) (r : PpuReg) (v : Byte) :
    PpuSound (ppuRegWrite cfg c p r v).1 ∧ CartSound (ppuRegWrite cfg c p r v).2 := by
  have hd := ppuWrite_sound (cfg := cfg) hc h p.dataAddr v
  have keep : ∀ q : Ppu, q.nt = p.nt → q.pal = p.pal → q.oam = p.oam → q.back = p.back → q.front = p.front →
      PpuSound q := by
    intro q h1 h2 h3 h4 h5
    constructor <;> first | rw [h1] | rw [h2] | rw [h3] | rw [h4] | rw [h5]
    · exact h.1
    · exact h.2
    · exact h.3
    · exact h.4
    · exact h.5
    · exact h.6
    · exact h.7
    · exact h.8
    · exact h.9
    · exact h.10
    · exact h.11
  cases r with
  | oamdata =>
    exact ⟨⟨h.1, h.2, h.3, h.4, h.5, Memory.wf_write h.6 _ _, Memory.below_write h.7 p.oamAddr.isLt _, h.8, h.9, h.10,
      h.11⟩, hc⟩
  | ppudata => exact ⟨⟨hd.1.1, hd.1.2, hd.1.3, hd.1.4, hd.1.5, hd.1.6, hd.1.7, hd.1.8, hd.1.9, hd.1.10, hd.1.11⟩, hd.2⟩
  | ppuscroll =>
    refine ⟨?_, hc⟩
    simp only [ppuRegWrite, Ppu.writeScroll]
    split <;> exact keep _ rfl rfl rfl rfl rfl
  | ppuaddr =>
    refine ⟨?_, hc⟩
    simp only [ppuRegWrite, Ppu.writeAddr]
    split <;> exact keep _ rfl rfl rfl rfl rfl
  | ppuctrl => exact ⟨keep _ rfl rfl rfl rfl rfl, hc⟩
  | ppumask => exact ⟨keep _ rfl rfl rfl rfl rfl, hc⟩
  | ppustatus => exact ⟨h, hc⟩
  | oamaddr => exact ⟨keep _ rfl rfl rfl rfl rfl, hc⟩

theorem ppuRegWrite_mapper (cfg : Params) (c : Cart) (p : Ppu) (r : PpuReg) (v : Byte) :
    (ppuRegWrite cfg c p r v).2.mapper = c.mapper := by
  cases r <;> try rfl
  simp only [ppuRegWrite, Ppu.writeData, ppuWrite]
  split
  · exact Cart.writeChr_mapper _ _ _
  · split <;> rfl

/-! ### The bus -/

/-- A read keeps every memory. -/
theorem OnlyReadEffects.sound {s t : State} (h : OnlyReadEffects s t) (hs : s.MemoriesSound) : t.MemoriesSound := by
  have hp := (State.memoriesSound_iff.1 hs).2.1
  refine hs.congr h.ram ?_ (h.cartRead.sound (State.memoriesSound_iff.1 hs).2.2)
  rw [h]
  exact ⟨hp.1, hp.2, hp.3, hp.4, hp.5, hp.6, hp.7, hp.8, hp.9, hp.10, hp.11⟩

theorem dmaByte_sound {s : State} (h : s.MemoriesSound) (page : Byte) (i : Nat) : (dmaByte page s i).MemoriesSound := by
  have h' := (memRead_effects (w16 page (BitVec.ofNat 8 i)) s).sound h
  refine h'.congr rfl ?_ (State.memoriesSound_iff.1 h').2.2
  have hp := (State.memoriesSound_iff.1 h').2.1
  exact ⟨hp.1, hp.2, hp.3, hp.4, hp.5, Memory.wf_write hp.6 _ _, Memory.below_write hp.7 (Nat.mod_lt _ (by decide)) _,
    hp.8, hp.9, hp.10, hp.11⟩

/-- An OAM DMA keeps every memory sound (R330). -/
theorem oamDma_sound {s : State} (h : s.MemoriesSound) (page : Byte) : (oamDma page s).MemoriesSound := by
  have fold : ∀ (l : List Nat) (s : State), s.MemoriesSound → (l.foldl (dmaByte page) s).MemoriesSound := by
    intro l
    induction l with
    | nil => exact fun _ h => h
    | cons i l ih => exact fun s h => ih _ (dmaByte_sound h page i)
  have h' := fold (List.range 256) s h
  exact h'.congr rfl (State.memoriesSound_iff.1 h').2.1 (State.memoriesSound_iff.1 h').2.2

/-- A bus write keeps every memory sound (R67). -/
theorem memWrite_sound {s : State} (h : s.MemoriesSound) (a : Word) (v : Byte) : (memWrite a v s).MemoriesSound := by
  obtain ⟨⟨hr, hr'⟩, hp, hc⟩ := State.memoriesSound_iff.1 h
  unfold memWrite
  split
  · rename_i n hn
    have : n < 0x800 := by
      unfold busTarget at hn
      repeat' split at hn
      all_goals first | (cases hn; done) | (cases hn; exact Nat.mod_lt _ (by decide))
    exact State.memoriesSound_iff.2 ⟨⟨Memory.wf_write hr _ _, Memory.below_write hr' this _⟩, hp, hc⟩
  · rename_i r _
    obtain ⟨h1, h2⟩ := ppuRegWrite_sound (cfg := s.params) hc hp r v
    exact State.memoriesSound_iff.2 ⟨⟨hr, hr'⟩, h1, h2⟩
  · exact oamDma_sound h v
  · exact h.congr rfl hp hc
  · exact h
  · exact h
  · exact State.memoriesSound_iff.2 ⟨⟨hr, hr'⟩, hp, hc.writePrg a v⟩

/-- An OAM DMA changes the cartridge as its reads do (R330). -/
theorem oamDma_cartRead (page : Byte) (s : State) : CartRead s.cart (oamDma page s).cart := by
  have fold : ∀ (l : List Nat) (s : State), CartRead s.cart (l.foldl (dmaByte page) s).cart := by
    intro l
    induction l with
    | nil => exact fun s => .refl s.cart
    | cons i l ih => exact fun s => (memRead_effects _ s).cartRead.trans (ih (dmaByte page s i))
  exact fold _ s

/-- No bus write changes the mapper. -/
theorem memWrite_mapper (a : Word) (v : Byte) (s : State) : (memWrite a v s).cart.mapper = s.cart.mapper := by
  unfold memWrite
  split <;> try rfl
  · exact ppuRegWrite_mapper _ _ _ _ _
  · exact (oamDma_cartRead _ _).mapper
  · exact Cart.writePrg_mapper _ _ _

/-- A port's read index stays at most 8 under reads, the strobe and reset (R48, R353). -/
theorem Controller.read_index (c : Controller) (h : c.index ≤ 8) : c.read.2.index ≤ 8 := by
  unfold Controller.read
  split
  · exact h
  · split
    · simp only; omega
    · exact h

theorem Controller.writeStrobe_index (c : Controller) (b : Bool) (h : c.index ≤ 8) : (c.writeStrobe b).index ≤ 8 := by
  unfold Controller.writeStrobe
  split
  · exact Nat.zero_le _
  · exact h

/-- Both ports' read indices at most 8. -/
def State.PadsSound (s : State) : Prop := s.pad1.index ≤ 8 ∧ s.pad2.index ≤ 8

theorem memRead_pads (a : Word) {s : State} (h : s.PadsSound) : (memRead a s).2.PadsSound := by
  unfold memRead
  split
  · exact h
  · exact h
  · exact ⟨Controller.read_index _ h.1, h.2⟩
  · exact ⟨h.1, Controller.read_index _ h.2⟩
  · exact h
  · exact h
  · exact h

theorem Reads.pads {s t : State} (h : Reads s t) (hs : s.PadsSound) : t.PadsSound := by
  induction h with
  | refl => exact hs
  | read _ a ih => exact memRead_pads a ih

theorem foldl_dmaByte_pads (page : Byte) (l : List Nat) {s : State} (h : s.PadsSound) :
    (l.foldl (dmaByte page) s).PadsSound := by
  induction l generalizing s with
  | nil => exact h
  | cons i l ih => exact ih (s := dmaByte page s i) (memRead_pads _ h)

theorem addCycles_pads (n : Nat) {s : State} (h : s.PadsSound) : (s.addCycles n).PadsSound := h

theorem oamDma_pads (page : Byte) {s : State} (h : s.PadsSound) : (oamDma page s).PadsSound :=
  addCycles_pads _ (foldl_dmaByte_pads page _ h)

theorem memWrite_pads (a : Word) (v : Byte) {s : State} (h : s.PadsSound) : (memWrite a v s).PadsSound := by
  unfold memWrite
  split
  · exact h
  · exact h
  · exact oamDma_pads v h
  · exact ⟨Controller.writeStrobe_index _ _ h.1, Controller.writeStrobe_index _ _ h.2⟩
  · exact h
  · exact h
  · exact h

/-- Stores to the stack page keep RAM sound. -/
theorem StackStores.sound {m m' : Memory} (h : StackStores m m') (hm : Memory.wf m ∧ Memory.below 0x800 m) :
    Memory.wf m' ∧ Memory.below 0x800 m' := by
  induction h with
  | none => exact hm
  | push h sp v ih =>
    refine ⟨Memory.wf_write ih.1 _ _, Memory.below_write ih.2 ?_ _⟩
    have := sp.isLt
    unfold stackCell
    omega

/-! ### Ticks and reset -/

theorem PpuSound.tick {p : Ppu} (cfg : Params) (c : Cart) (h : PpuSound p) : PpuSound (p.tick cfg c).1 := by
  have hb : Memory.wf (p.tick cfg c).1.back ∧ Memory.below 61440 (p.tick cfg c).1.back := by
    rw [Ppu.tick_back]
    rcases Ppu.tickPixel_back cfg c (p.advancePosition.tickFlags cfg) with hb | ⟨h1, h2, h3, v, hb⟩ <;> rw [hb]
    · rw [Ppu.tickFlags_back, Ppu.advancePosition_back]
      exact ⟨h.8, h.9⟩
    · rw [Ppu.tickFlags_back, Ppu.advancePosition_back]
      refine ⟨Memory.wf_write h.8 _ _, Memory.below_write h.9 ?_ _⟩
      unfold pixelCell
      omega
  have hf : (p.tick cfg c).1.front = p.front ∨ (p.tick cfg c).1.front = p.back := by
    rw [Ppu.tick_front, Ppu.advancePosition]
    split
    · exact .inl rfl
    · split
      · exact .inl rfl
      · exact .inr rfl
  constructor <;> first | rw [Ppu.tick_nt] | rw [Ppu.tick_pal] | rw [Ppu.tick_oam] | skip
  · exact h.1
  · exact h.2
  · exact h.3
  · exact h.4
  · exact h.5
  · exact h.6
  · exact h.7
  · exact hb.1
  · exact hb.2
  · rcases hf with hf | hf <;> rw [hf]
    exacts [h.10, h.8]
  · rcases hf with hf | hf <;> rw [hf]
    exacts [h.11, h.9]

theorem PpuSound.cleared (n : Nat) : PpuSound (Ppu.clearedAt n) := by
  constructor <;> simp [Ppu.clearedAt, Memory.wf, Memory.below]

/-- The catch-up of the PPU and the move of the NMI request keep every memory sound (R285). -/
theorem catchUp_sound {s : State} (h : s.MemoriesSound) (n : Nat) : (catchUp n s).MemoriesSound := by
  have hp := Ppu.ticks_induct (cfg := s.params) (motive := fun r => PpuSound r.1) (fun _ c h => PpuSound.tick _ c h) (3 * n)
    (c := s.cart) (State.memoriesSound_iff.1 h).2.1
  have hc := (s.ppu.ticks_read s.params s.cart (3 * n)).sound (State.memoriesSound_iff.1 h).2.2
  unfold catchUp moveNmi
  dsimp only
  split
  · refine h.congr rfl ?_ hc
    exact ⟨hp.1, hp.2, hp.3, hp.4, hp.5, hp.6, hp.7, hp.8, hp.9, hp.10, hp.11⟩
  · exact h.congr rfl hp hc

theorem catchUp_cart (n : Nat) (s : State) : (catchUp n s).cart = (s.ppu.ticks s.params s.cart (3 * n)).2 := by
  unfold catchUp moveNmi
  dsimp only
  split <;> rfl

/-- Reset memory is canonical. -/
theorem reset_memoriesSound : State.reset.MemoriesSound := by
  constructor <;> try simp [State.reset, Ppu.clearedAt, Memory.wf, Memory.below]
  constructor <;> simp [PlainCart.empty, Memory.wf, Memory.below]

end Sys2Proof.Machine
end

