-- ==== Sys2Proof/Laws/Step.lean ====
section
/-! SUPPORT. What a step can do, said once: the shape of a CPU step, of a system step and of a step of the machine, the
boundary's inputs and the reset as one update each. -/

namespace Sys2Proof.Machine

/-- Interrupt entry as one update (R271). -/
theorem interruptEntry_eq {v : Word} (hv : v = nmiVector ∨ v = irqVector) (s : State) :
    interruptEntry v s = { s with
      ram := Memory.write (Memory.write (Memory.write s.ram (stackCell s.cpu.sp) (hi s.cpu.pc))
        (stackCell (s.cpu.sp - 1)) (lo s.cpu.pc)) (stackCell (s.cpu.sp - 2)) (statusPushedByInterrupt s.cpu.p)
      cart := (s.cart.readWord v).2
      cpu := { s.cpu with
        sp := s.cpu.sp - 3
        p := Flag.i.put true s.cpu.p
        pc := (s.cart.readWord v).1
        cycles := s.cpu.cycles + 7 } } := by
  rcases hv with rfl | rfl <;> exact takeInterrupt_eq (by decide) (by decide) _ _ _

/-- The state after the fetch of an instruction: bus reads, and a new PC. -/
structure Fetched.After (s u : State) : Prop where
  reads : ∃ t, Reads s t ∧ u = { t with cpu := u.cpu }
  cpu   : ∃ w, u.cpu = { s.cpu with pc := w }

theorem fetch_after {s u : State} {i : Instr} (h : fetch s = .instr i u) : Fetched.After s u := by
  have next : ∀ u, Fetched.After s u → Fetched.After s (fetchByte u).2 := by
    rintro u ⟨⟨t, ht, hu⟩, w, hw⟩
    refine ⟨⟨(memRead u.cpu.pc t).2, .read ht _, ?_⟩, u.cpu.pc + 1, ?_⟩
    · have := congrArg (fun r => r.2) (memRead_withCpu u.cpu.pc t u.cpu)
      rw [← hu] at this
      simp only [fetchByte, State.setPC, this]
    · simp only [fetchByte, State.setPC, memRead_cpu, hw]
  have h0 := next s ⟨⟨s, .refl, rfl⟩, s.cpu.pc, rfl⟩
  unfold fetch at h
  dsimp only at h
  split at h <;> cases h
  · exact h0
  · exact next _ h0
  · exact next _ (next _ h0)

/-- The shapes of a CPU step that answers a next state (R250, R266): an interrupt entry with the latch cleared, or an
instruction after its fetch. -/
inductive CpuStepped (s : State) : State → Prop
  | entry (v : Word) (hv : v = nmiVector ∨ v = irqVector) (c : Cpu)
      (hc : c = { s.cpu with nmiPending := c.nmiPending, irqPending := c.irqPending }) :
      CpuStepped s (interruptEntry v { s with cpu := c })
  | run (i : Instr) (u t : State) (hu : Fetched.After s u) (ht : exec i u = .next t) : CpuStepped s t

theorem cpuStep_cases {s t : State} (h : cpuStep s = .next t) : CpuStepped s t := by
  unfold cpuStep at h
  split at h
  · cases h
  · split at h
    · cases h
      exact .entry _ (.inl rfl) _ rfl
    · split at h
      · cases h
        exact .entry _ (.inr rfl) _ rfl
      · unfold runInstruction at h
        split at h
        · exact .run _ _ _ (fetch_after ‹_›) h
        · cases h

/-- The boundary's inputs as one update (R285). -/
theorem applyEnv_eq (env : EnvInput) (s : State) :
    applyEnv env s = { s with
      pad1 := { s.pad1 with buttons := env.buttons1 }
      pad2 := { s.pad2 with buttons := env.buttons2 }
      cpu := { s.cpu with irqPending := env.irqLevel || (!env.irqRelease && s.cpu.irqPending) } } := by
  unfold applyEnv releaseIrq requestIrq State.setIrqPending Controller.setButtons
  cases env.irqLevel <;> cases env.irqRelease <;> simp

theorem systemStep_cases {env : EnvInput} {s t : State} (h : systemStep env s = .next t) :
    s.cpu.halted = none ∧
      ∃ u, cpuStep (applyEnv env s) = .next u ∧ t = catchUp (u.cpu.cycles - s.cpu.cycles) u := by
  unfold systemStep at h
  split at h
  · cases h
  · unfold afterCpuStep at h
    split at h <;> cases h
    exact ⟨‹_›, _, ‹_›, rfl⟩

/-- What a step of the machine can do: a CPU step after the boundary's inputs, with the PPU's catch-up, or a reset. -/
theorem step_cases {s t : State} (h : step s = .next t) :
    (∃ env later u, cpuStep (applyEnv env { s with inputs := later }) = .next u ∧
      t = catchUp (u.cpu.cycles - s.cpu.cycles) u) ∨
    ∃ later, t = hostReset { s with inputs := later } := by
  unfold step hostStep at h
  split at h
  · obtain ⟨-, u, hu, ht⟩ := systemStep_cases h
    exact .inl ⟨_, s.inputs, u, hu, ht⟩
  · obtain ⟨-, u, hu, ht⟩ := systemStep_cases h
    exact .inl ⟨_, _, u, hu, ht⟩
  · cases h
    exact .inr ⟨_, rfl⟩

/-- The catch-up as one update: the ticked PPU, its request moved (R285). -/
theorem catchUp_eq (n : Nat) (s : State) :
    catchUp n s = { s with
      ppu := { (s.ppu.ticks s.params s.cart (3 * n)).1 with nmiRequest := false }
      cart := (s.ppu.ticks s.params s.cart (3 * n)).2
      cpu := { s.cpu with nmiPending := s.cpu.nmiPending || (s.ppu.ticks s.params s.cart (3 * n)).1.nmiRequest } } := by
  unfold catchUp moveNmi
  dsimp only
  split <;> rename_i h
  · simp only [h, Bool.or_true]
    rfl
  · rw [Bool.not_eq_true] at h
    rw [h, Bool.or_false]
    conv_rhs => rw [← h]

/-- Reset as one update (R380). -/
theorem hostReset_eq (s : State) :
    hostReset s = { s with
      cpu := Cpu.afterReset s.params (s.cart.afterReset.readWord resetVector).1
      ram := []
      ppu := ((Ppu.clearedAt 0).ticks s.params (s.cart.afterReset.readWord resetVector).2 21).1
      pad1 := s.pad1.reset
      pad2 := s.pad2.reset
      cart := ((Ppu.clearedAt 0).ticks s.params (s.cart.afterReset.readWord resetVector).2 21).2 } := by
  unfold hostReset resetCpu
  rw [memRead16_vector (by decide) (by decide)]
  rfl

/-! ### The parameters -/

@[simp] theorem hostReset_params (s : State) : (hostReset s).params = s.params := by rw [hostReset_eq]
@[simp] theorem hostReset_inputs (s : State) : (hostReset s).inputs = s.inputs := by rw [hostReset_eq]
@[simp] theorem launch_params (cfg : Params) (c : Cart) : (launch cfg c).params = cfg := hostReset_params _
@[simp] theorem catchUp_params (n : Nat) (s : State) : (catchUp n s).params = s.params := by rw [catchUp_eq]
@[simp] theorem applyEnv_params (env : EnvInput) (s : State) : (applyEnv env s).params = s.params := by rw [applyEnv_eq]

/-- No CPU step changes a parameter (R8). -/
theorem CpuStepped.params {s t : State} (h : CpuStepped s t) : t.params = s.params := by
  cases h with
  | entry v hv c hc => rw [interruptEntry_eq hv]
  | run i u t hu ht =>
    obtain ⟨r, hr, hu⟩ := hu.reads
    rw [(exec_effect ht).params, hu]
    exact hr.effects.params

end Sys2Proof.Machine
end

