-- ==== Sys2Proof/Tests/Slice0.lean ====
section
/-! SUPPORT. The model's own tests: every opcode byte of 30_encoding.md R121 decoded, the well-formedness smoke, single
steps of 95_test_vectors.md (two vectors for each mnemonic), device vectors, and a witness for the hypotheses of every
statement that has any. -/

open Sys2Proof Sys2Proof.Machine

namespace Sys2Proof.Tests

/-! ### Decoding: words from the encodings of R100, R101, R121 -/

/-- Each byte list decodes to its instruction, with nothing left. -/
abbrev Decodes (words : List (List Byte)) (instrs : List Instr) : Prop :=
  words.map (fun w => (decode w).toOption) = instrs.map fun i => some (i, [])

theorem test_decode_flags_system :
    Decodes
      [[0x00], [0x18], [0x38], [0x40], [0x58], [0x78], [0xB8], [0xD8], [0xEA], [0xF8]]
      [.brk, .clc, .sec, .rti, .cli, .sei, .clv, .cld, .nop, .sed] := by
  decide

theorem test_decode_logic_shift_1 :
    Decodes
      [[0x01, 0x81], [0x05, 0x81], [0x06, 0x81], [0x09, 0x81], [0x0A], [0x0D, 0x34, 0x12], [0x0E, 0x34, 0x12],
       [0x11, 0x81], [0x15, 0x81], [0x16, 0x81], [0x19, 0x34, 0x12], [0x1D, 0x34, 0x12], [0x1E, 0x34, 0x12],
       [0x21, 0x81], [0x24, 0x81], [0x25, 0x81], [0x26, 0x81], [0x29, 0x81], [0x2A], [0x2C, 0x34, 0x12],
       [0x2D, 0x34, 0x12], [0x2E, 0x34, 0x12], [0x31, 0x81], [0x35, 0x81], [0x36, 0x81], [0x39, 0x34, 0x12],
       [0x3D, 0x34, 0x12], [0x3E, 0x34, 0x12], [0x41, 0x81], [0x45, 0x81]]
      [.oraIzx 0x81, .oraZp 0x81, .aslZp 0x81, .oraImm 0x81, .aslAcc, .oraAbs 0x1234, .aslAbs 0x1234, .oraIzy 0x81,
       .oraZpx 0x81, .aslZpx 0x81, .oraAby 0x1234, .oraAbx 0x1234, .aslAbx 0x1234, .andIzx 0x81, .bitZp 0x81,
       .andZp 0x81, .rolZp 0x81, .andImm 0x81, .rolAcc, .bitAbs 0x1234, .andAbs 0x1234, .rolAbs 0x1234, .andIzy 0x81,
       .andZpx 0x81, .rolZpx 0x81, .andAby 0x1234, .andAbx 0x1234, .rolAbx 0x1234, .eorIzx 0x81, .eorZp 0x81] := by
  decide

theorem test_decode_logic_shift_2 :
    Decodes
      [[0x46, 0x81], [0x49, 0x81], [0x4A], [0x4D, 0x34, 0x12], [0x4E, 0x34, 0x12], [0x51, 0x81], [0x55, 0x81],
       [0x56, 0x81], [0x59, 0x34, 0x12], [0x5D, 0x34, 0x12], [0x5E, 0x34, 0x12], [0x66, 0x81], [0x6A],
       [0x6E, 0x34, 0x12], [0x76, 0x81], [0x7E, 0x34, 0x12]]
      [.lsrZp 0x81, .eorImm 0x81, .lsrAcc, .eorAbs 0x1234, .lsrAbs 0x1234, .eorIzy 0x81, .eorZpx 0x81, .lsrZpx 0x81,
       .eorAby 0x1234, .eorAbx 0x1234, .lsrAbx 0x1234, .rorZp 0x81, .rorAcc, .rorAbs 0x1234, .rorZpx 0x81,
       .rorAbx 0x1234] := by
  decide

theorem test_decode_stack :
    Decodes
      [[0x08], [0x28], [0x48], [0x68]]
      [.php, .plp, .pha, .pla] := by
  decide

theorem test_decode_control_flow :
    Decodes
      [[0x10, 0x81], [0x20, 0x34, 0x12], [0x30, 0x81], [0x4C, 0x34, 0x12], [0x50, 0x81], [0x60], [0x6C, 0x34, 0x12],
       [0x70, 0x81], [0x90, 0x81], [0xB0, 0x81], [0xD0, 0x81], [0xF0, 0x81]]
      [.bpl 0x81, .jsr 0x1234, .bmi 0x81, .jmpAbs 0x1234, .bvc 0x81, .rts, .jmpInd 0x1234, .bvs 0x81, .bcc 0x81,
       .bcs 0x81, .bne 0x81, .beq 0x81] := by
  decide

theorem test_decode_arithmetic_1 :
    Decodes
      [[0x61, 0x81], [0x65, 0x81], [0x69, 0x81], [0x6D, 0x34, 0x12], [0x71, 0x81], [0x75, 0x81], [0x79, 0x34, 0x12],
       [0x7D, 0x34, 0x12], [0x88], [0xC0, 0x81], [0xC1, 0x81], [0xC4, 0x81], [0xC5, 0x81], [0xC6, 0x81], [0xC8],
       [0xC9, 0x81], [0xCA], [0xCC, 0x34, 0x12], [0xCD, 0x34, 0x12], [0xCE, 0x34, 0x12], [0xD1, 0x81], [0xD5, 0x81],
       [0xD6, 0x81], [0xD9, 0x34, 0x12], [0xDD, 0x34, 0x12], [0xDE, 0x34, 0x12], [0xE0, 0x81], [0xE1, 0x81],
       [0xE4, 0x81], [0xE5, 0x81]]
      [.adcIzx 0x81, .adcZp 0x81, .adcImm 0x81, .adcAbs 0x1234, .adcIzy 0x81, .adcZpx 0x81, .adcAby 0x1234,
       .adcAbx 0x1234, .dey, .cpyImm 0x81, .cmpIzx 0x81, .cpyZp 0x81, .cmpZp 0x81, .decZp 0x81, .iny, .cmpImm 0x81,
       .dex, .cpyAbs 0x1234, .cmpAbs 0x1234, .decAbs 0x1234, .cmpIzy 0x81, .cmpZpx 0x81, .decZpx 0x81,
       .cmpAby 0x1234, .cmpAbx 0x1234, .decAbx 0x1234, .cpxImm 0x81, .sbcIzx 0x81, .cpxZp 0x81, .sbcZp 0x81] := by
  decide

theorem test_decode_arithmetic_2 :
    Decodes
      [[0xE6, 0x81], [0xE8], [0xE9, 0x81], [0xEC, 0x34, 0x12], [0xED, 0x34, 0x12], [0xEE, 0x34, 0x12], [0xF1, 0x81],
       [0xF5, 0x81], [0xF6, 0x81], [0xF9, 0x34, 0x12], [0xFD, 0x34, 0x12], [0xFE, 0x34, 0x12]]
      [.incZp 0x81, .inx, .sbcImm 0x81, .cpxAbs 0x1234, .sbcAbs 0x1234, .incAbs 0x1234, .sbcIzy 0x81, .sbcZpx 0x81,
       .incZpx 0x81, .sbcAby 0x1234, .sbcAbx 0x1234, .incAbx 0x1234] := by
  decide

theorem test_decode_load_store_transfer_1 :
    Decodes
      [[0x81, 0x81], [0x84, 0x81], [0x85, 0x81], [0x86, 0x81], [0x8A], [0x8C, 0x34, 0x12], [0x8D, 0x34, 0x12],
       [0x8E, 0x34, 0x12], [0x91, 0x81], [0x94, 0x81], [0x95, 0x81], [0x96, 0x81], [0x98], [0x99, 0x34, 0x12],
       [0x9A], [0x9D, 0x34, 0x12], [0xA0, 0x81], [0xA1, 0x81], [0xA2, 0x81], [0xA4, 0x81], [0xA5, 0x81],
       [0xA6, 0x81], [0xA8], [0xA9, 0x81], [0xAA], [0xAC, 0x34, 0x12], [0xAD, 0x34, 0x12], [0xAE, 0x34, 0x12],
       [0xB1, 0x81], [0xB4, 0x81]]
      [.staIzx 0x81, .styZp 0x81, .staZp 0x81, .stxZp 0x81, .txa, .styAbs 0x1234, .staAbs 0x1234, .stxAbs 0x1234,
       .staIzy 0x81, .styZpx 0x81, .staZpx 0x81, .stxZpy 0x81, .tya, .staAby 0x1234, .txs, .staAbx 0x1234,
       .ldyImm 0x81, .ldaIzx 0x81, .ldxImm 0x81, .ldyZp 0x81, .ldaZp 0x81, .ldxZp 0x81, .tay, .ldaImm 0x81, .tax,
       .ldyAbs 0x1234, .ldaAbs 0x1234, .ldxAbs 0x1234, .ldaIzy 0x81, .ldyZpx 0x81] := by
  decide

theorem test_decode_load_store_transfer_2 :
    Decodes
      [[0xB5, 0x81], [0xB6, 0x81], [0xB9, 0x34, 0x12], [0xBA], [0xBC, 0x34, 0x12], [0xBD, 0x34, 0x12],
       [0xBE, 0x34, 0x12]]
      [.ldaZpx 0x81, .ldxZpy 0x81, .ldaAby 0x1234, .tsx, .ldyAbx 0x1234, .ldaAbx 0x1234, .ldxAby 0x1234] := by
  decide

/-! ### Well-formedness: each ill-formed byte sequence refused (R100, R128) -/

theorem test_wellFormed_illegal_opcode : wellFormedBytes [0x02] = false ∧ wellFormedBytes [0x89, 0x00] = false := by decide
theorem test_wellFormed_truncated : wellFormedBytes [0xA9] = false ∧ wellFormedBytes [0xAD, 0x34] = false := by decide
theorem test_wellFormed_too_long : wellFormedBytes [0xEA, 0xEA] = false ∧ wellFormedBytes [0xA9, 0x00, 0x00] = false := by
  decide
theorem test_wellFormed_empty : wellFormedBytes [] = false := by decide
theorem test_wellFormed_accepts :
    wellFormedBytes [0x20, 0x10, 0x80] = true ∧ wellFormedBytes [0xB9, 0xFF, 0xFF] = true ∧
    wellFormedBytes [0x00] = true ∧ wellFormedBytes [0xD0, 0xFB] = true := by decide
theorem test_decode_rejects :
    (match decode [0x89, 0x00] with | .error e => some e | .ok _ => none) = some (.illegalOpcode 0x89) ∧
    (match decode [0xAD, 0x34] with | .error e => some e | .ok _ => none) = some (.truncated 0xAD) ∧
    (match decode [] with | .error e => some e | .ok _ => none) = some .noByte := by decide

/-! ### Single steps (95_test_vectors.md section 2) -/

/-- A CPU at a boundary with nothing pending. -/
abbrev cpu (a x y sp : Byte) (pc : Word) (p : Byte) (cycles : Nat) : Cpu := ⟨a, x, y, sp, pc, p, false, false, none, cycles⟩

/-- Bytes put into a ROM image from CPU address `a` on. -/
def rom : List Byte → Nat → Memory → Memory
  | [], _, m      => m
  | b :: bs, a, m => rom bs (a + 1) (Memory.write m (a % 16384) b)

/-- The cartridge of the vectors: NMI 0x9000, reset 0x8000, IRQ/BRK 0xA000, the bytes of the instruction at PC. -/
def start (bytes : List Byte) (c : Cpu) (ram : Memory) : State :=
  { State.reset with
    cpu := c, ram := ram
    cart := .plain { PlainCart.empty with prgRom := rom bytes c.pc.toNat [(0x3FFB, 0x90), (0x3FFD, 0x80), (0x3FFF, 0xA0)] } }

/-- One CPU step from there: the CPU and RAM after it. -/
def ran (bytes : List Byte) (c : Cpu) (ram : Memory) : Option (Cpu × Memory) :=
  match cpuStep (start bytes c ram) with
  | .next t    => some (t.cpu, t.ram)
  | .fault _   => none
  | .refused _ => none

theorem test_lda :
    ran [0xA9, 0x00] (cpu 0x01 0x00 0x00 0xFD 0x8000 0x24 0) [] =
      some (cpu 0x00 0x00 0x00 0xFD 0x8002 0x26 2, []) ∧
    ran [0xA1, 0xFE] (cpu 0x00 0x01 0x00 0xFD 0x8000 0x24 0) [(0x000, 0x02), (0x0FF, 0x34), (0x100, 0x07), (0x234, 0x66)] =
      some (cpu 0x66 0x01 0x00 0xFD 0x8002 0x24 6, [(0x000, 0x02), (0x0FF, 0x34), (0x100, 0x07), (0x234, 0x66)]) := by
  decide

theorem test_ldx :
    ran [0xA2, 0xFF] (cpu 0x00 0x00 0x00 0xFD 0x8000 0x24 0) [] =
      some (cpu 0x00 0xFF 0x00 0xFD 0x8002 0xA4 2, []) ∧
    ran [0xB6, 0xFF] (cpu 0x00 0x00 0x02 0xFD 0x8000 0x24 0) [(0x001, 0x12)] =
      some (cpu 0x00 0x12 0x02 0xFD 0x8002 0x24 4, [(0x001, 0x12)]) := by
  decide

theorem test_ldy :
    ran [0xA0, 0x7F] (cpu 0x00 0x00 0x00 0xFD 0x8000 0x24 0) [] =
      some (cpu 0x00 0x00 0x7F 0xFD 0x8002 0x24 2, []) ∧
    ran [0xB4, 0x10] (cpu 0x00 0x04 0x00 0xFD 0x8000 0x24 0) [(0x014, 0x15)] =
      some (cpu 0x00 0x04 0x15 0xFD 0x8002 0x24 4, [(0x014, 0x15)]) := by
  decide

theorem test_sta :
    ran [0x85, 0x10] (cpu 0x5A 0x00 0x00 0xFD 0x8000 0x24 0) [] =
      some (cpu 0x5A 0x00 0x00 0xFD 0x8002 0x24 3, [(0x010, 0x5A)]) ∧
    ran [0x81, 0xFE] (cpu 0x5A 0x01 0x00 0xFD 0x8000 0x24 0) [(0x000, 0x02), (0x0FF, 0x34)] =
      some (cpu 0x5A 0x01 0x00 0xFD 0x8002 0x24 6, [(0x000, 0x02), (0x0FF, 0x34), (0x234, 0x5A)]) := by
  decide

theorem test_stx :
    ran [0x86, 0x10] (cpu 0x00 0x03 0x00 0xFD 0x8000 0x24 0) [] =
      some (cpu 0x00 0x03 0x00 0xFD 0x8002 0x24 3, [(0x010, 0x03)]) ∧
    ran [0x96, 0xFF] (cpu 0x00 0x03 0x02 0xFD 0x8000 0x24 0) [] =
      some (cpu 0x00 0x03 0x02 0xFD 0x8002 0x24 4, [(0x001, 0x03)]) := by
  decide

theorem test_sty :
    ran [0x84, 0x10] (cpu 0x00 0x00 0x04 0xFD 0x8000 0x24 0) [] =
      some (cpu 0x00 0x00 0x04 0xFD 0x8002 0x24 3, [(0x010, 0x04)]) ∧
    ran [0x94, 0x10] (cpu 0x00 0xF0 0x04 0xFD 0x8000 0x24 0) [] =
      some (cpu 0x00 0xF0 0x04 0xFD 0x8002 0x24 4, [(0x000, 0x04)]) := by
  decide

theorem test_tax :
    ran [0xAA] (cpu 0x00 0x55 0x00 0xFD 0x8000 0x24 0) [] =
      some (cpu 0x00 0x00 0x00 0xFD 0x8001 0x26 2, []) := by
  decide

theorem test_tay :
    ran [0xA8] (cpu 0x80 0x00 0x00 0xFD 0x8000 0x24 0) [] =
      some (cpu 0x80 0x00 0x80 0xFD 0x8001 0xA4 2, []) := by
  decide

theorem test_txa :
    ran [0x8A] (cpu 0xFF 0x01 0x00 0xFD 0x8000 0xA4 0) [] =
      some (cpu 0x01 0x01 0x00 0xFD 0x8001 0x24 2, []) := by
  decide

theorem test_tya :
    ran [0x98] (cpu 0x00 0x00 0xFF 0xFD 0x8000 0x24 0) [] =
      some (cpu 0xFF 0x00 0xFF 0xFD 0x8001 0xA4 2, []) := by
  decide

theorem test_tsx :
    ran [0xBA] (cpu 0x00 0x00 0x00 0xFD 0x8000 0x24 0) [] =
      some (cpu 0x00 0xFD 0x00 0xFD 0x8001 0xA4 2, []) := by
  decide

theorem test_txs :
    ran [0x9A] (cpu 0x00 0x00 0x00 0xFD 0x8000 0xA4 0) [] =
      some (cpu 0x00 0x00 0x00 0x00 0x8001 0xA4 2, []) := by
  decide

theorem test_pha :
    ran [0x48] (cpu 0x42 0x00 0x00 0xFD 0x8000 0x24 0) [] =
      some (cpu 0x42 0x00 0x00 0xFC 0x8001 0x24 3, [(0x1FD, 0x42)]) ∧
    ran [0x48] (cpu 0x42 0x00 0x00 0x00 0x8000 0x24 0) [] =
      some (cpu 0x42 0x00 0x00 0xFF 0x8001 0x24 3, [(0x100, 0x42)]) := by
  decide

theorem test_php :
    ran [0x08] (cpu 0x00 0x00 0x00 0xFD 0x8000 0x24 0) [] =
      some (cpu 0x00 0x00 0x00 0xFC 0x8001 0x24 3, [(0x1FD, 0x34)]) ∧
    ran [0x08] (cpu 0x00 0x00 0x00 0xFD 0x8000 0xEF 0) [] =
      some (cpu 0x00 0x00 0x00 0xFC 0x8001 0xEF 3, [(0x1FD, 0xFF)]) := by
  decide

theorem test_pla :
    ran [0x68] (cpu 0x01 0x00 0x00 0xFC 0x8000 0x24 0) [] =
      some (cpu 0x00 0x00 0x00 0xFD 0x8001 0x26 4, []) ∧
    ran [0x68] (cpu 0x00 0x00 0x00 0xFF 0x8000 0x24 0) [(0x100, 0x80)] =
      some (cpu 0x80 0x00 0x00 0x00 0x8001 0xA4 4, [(0x100, 0x80)]) := by
  decide

theorem test_plp :
    ran [0x28] (cpu 0x00 0x00 0x00 0xFC 0x8000 0x24 0) [(0x1FD, 0xFF)] =
      some (cpu 0x00 0x00 0x00 0xFD 0x8001 0xEF 4, [(0x1FD, 0xFF)]) ∧
    ran [0x28] (cpu 0x00 0x00 0x00 0xFC 0x8000 0xEF 0) [] =
      some (cpu 0x00 0x00 0x00 0xFD 0x8001 0x20 4, []) := by
  decide

theorem test_adc :
    ran [0x69, 0x50] (cpu 0x50 0x00 0x00 0xFD 0x8000 0x24 0) [] =
      some (cpu 0xA0 0x00 0x00 0xFD 0x8002 0xE4 2, []) ∧
    ran [0x61, 0x10] (cpu 0x01 0x02 0x00 0xFD 0x8000 0x24 0) [(0x013, 0x03), (0x300, 0x07)] =
      some (cpu 0x08 0x02 0x00 0xFD 0x8002 0x24 6, [(0x013, 0x03), (0x300, 0x07)]) := by
  decide

theorem test_sbc :
    ran [0xE9, 0x03] (cpu 0x05 0x00 0x00 0xFD 0x8000 0x25 0) [] =
      some (cpu 0x02 0x00 0x00 0xFD 0x8002 0x25 2, []) ∧
    ran [0xF1, 0x10] (cpu 0x05 0x00 0xFF 0xFD 0x8000 0x25 0) [(0x010, 0x01), (0x011, 0x02), (0x300, 0x01)] =
      some (cpu 0x04 0x00 0xFF 0xFD 0x8002 0x25 6, [(0x010, 0x01), (0x011, 0x02), (0x300, 0x01)]) := by
  decide

theorem test_cmp :
    ran [0xC9, 0x40] (cpu 0x40 0x00 0x00 0xFD 0x8000 0x24 0) [] =
      some (cpu 0x40 0x00 0x00 0xFD 0x8002 0x27 2, []) ∧
    ran [0xCD, 0x10, 0x02] (cpu 0x10 0x00 0x00 0xFD 0x8000 0x24 0) [(0x210, 0x0F)] =
      some (cpu 0x10 0x00 0x00 0xFD 0x8003 0x25 4, [(0x210, 0x0F)]) := by
  decide

theorem test_cpx :
    ran [0xE0, 0x05] (cpu 0x00 0x03 0x00 0xFD 0x8000 0x24 0) [] =
      some (cpu 0x00 0x03 0x00 0xFD 0x8002 0xA4 2, []) ∧
    ran [0xE4, 0x10] (cpu 0x00 0x03 0x00 0xFD 0x8000 0x24 0) [(0x010, 0x03)] =
      some (cpu 0x00 0x03 0x00 0xFD 0x8002 0x27 3, [(0x010, 0x03)]) := by
  decide

theorem test_cpy :
    ran [0xC0, 0x08] (cpu 0x00 0x00 0x10 0xFD 0x8000 0x24 0) [] =
      some (cpu 0x00 0x00 0x10 0xFD 0x8002 0x25 2, []) ∧
    ran [0xC4, 0x10] (cpu 0x00 0x00 0x00 0xFD 0x8000 0x24 0) [(0x010, 0x80)] =
      some (cpu 0x00 0x00 0x00 0xFD 0x8002 0xA4 3, [(0x010, 0x80)]) := by
  decide

theorem test_inc :
    ran [0xE6, 0x10] (cpu 0x00 0x00 0x00 0xFD 0x8000 0x24 0) [(0x010, 0xFF)] =
      some (cpu 0x00 0x00 0x00 0xFD 0x8002 0x26 5, []) ∧
    ran [0xF6, 0x10] (cpu 0x00 0x01 0x00 0xFD 0x8000 0x24 0) [] =
      some (cpu 0x00 0x01 0x00 0xFD 0x8002 0x24 6, [(0x011, 0x01)]) := by
  decide

theorem test_dec :
    ran [0xC6, 0x10] (cpu 0x00 0x00 0x00 0xFD 0x8000 0x24 0) [] =
      some (cpu 0x00 0x00 0x00 0xFD 0x8002 0xA4 5, [(0x010, 0xFF)]) ∧
    ran [0xD6, 0x10] (cpu 0x00 0xFF 0x00 0xFD 0x8000 0x24 0) [(0x00F, 0x80)] =
      some (cpu 0x00 0xFF 0x00 0xFD 0x8002 0x24 6, [(0x00F, 0x7F)]) := by
  decide

theorem test_inx :
    ran [0xE8] (cpu 0x00 0xFF 0x00 0xFD 0x8000 0x24 0) [] =
      some (cpu 0x00 0x00 0x00 0xFD 0x8001 0x26 2, []) := by
  decide

theorem test_iny :
    ran [0xC8] (cpu 0x00 0x00 0x7F 0xFD 0x8000 0x24 0) [] =
      some (cpu 0x00 0x00 0x80 0xFD 0x8001 0xA4 2, []) := by
  decide

theorem test_dex :
    ran [0xCA] (cpu 0x00 0x00 0x00 0xFD 0x8000 0x24 0) [] =
      some (cpu 0x00 0xFF 0x00 0xFD 0x8001 0xA4 2, []) := by
  decide

theorem test_dey :
    ran [0x88] (cpu 0x00 0x00 0x01 0xFD 0x8000 0x24 0) [] =
      some (cpu 0x00 0x00 0x00 0xFD 0x8001 0x26 2, []) := by
  decide

theorem test_and :
    ran [0x29, 0x0F] (cpu 0xF0 0x00 0x00 0xFD 0x8000 0x24 0) [] =
      some (cpu 0x00 0x00 0x00 0xFD 0x8002 0x26 2, []) ∧
    ran [0x39, 0xF0, 0x02] (cpu 0x3C 0x00 0x10 0xFD 0x8000 0x24 0) [(0x300, 0x0F)] =
      some (cpu 0x0C 0x00 0x10 0xFD 0x8003 0x24 5, [(0x300, 0x0F)]) := by
  decide

theorem test_ora :
    ran [0x09, 0x80] (cpu 0x01 0x00 0x00 0xFD 0x8000 0x24 0) [] =
      some (cpu 0x81 0x00 0x00 0xFD 0x8002 0xA4 2, []) ∧
    ran [0x01, 0x10] (cpu 0x01 0x00 0x00 0xFD 0x8000 0x24 0) [(0x011, 0x03), (0x300, 0x02)] =
      some (cpu 0x03 0x00 0x00 0xFD 0x8002 0x24 6, [(0x011, 0x03), (0x300, 0x02)]) := by
  decide

theorem test_eor :
    ran [0x49, 0xFF] (cpu 0xFF 0x00 0x00 0xFD 0x8000 0x24 0) [] =
      some (cpu 0x00 0x00 0x00 0xFD 0x8002 0x26 2, []) ∧
    ran [0x55, 0x10] (cpu 0x0F 0x01 0x00 0xFD 0x8000 0x24 0) [(0x011, 0xF0)] =
      some (cpu 0xFF 0x01 0x00 0xFD 0x8002 0xA4 4, [(0x011, 0xF0)]) := by
  decide

theorem test_bit :
    ran [0x24, 0x10] (cpu 0x01 0x00 0x00 0xFD 0x8000 0x24 0) [(0x010, 0xC0)] =
      some (cpu 0x01 0x00 0x00 0xFD 0x8002 0xE6 3, [(0x010, 0xC0)]) ∧
    ran [0x2C, 0x10, 0x02] (cpu 0x40 0x00 0x00 0xFD 0x8000 0x24 0) [(0x210, 0x40)] =
      some (cpu 0x40 0x00 0x00 0xFD 0x8003 0x64 4, [(0x210, 0x40)]) := by
  decide

theorem test_asl :
    ran [0x0A] (cpu 0x81 0x00 0x00 0xFD 0x8000 0x24 0) [] =
      some (cpu 0x02 0x00 0x00 0xFD 0x8001 0x25 2, []) ∧
    ran [0x16, 0x10] (cpu 0x00 0x01 0x00 0xFD 0x8000 0x24 0) [(0x011, 0x01)] =
      some (cpu 0x00 0x01 0x00 0xFD 0x8002 0x24 6, [(0x011, 0x02)]) := by
  decide

theorem test_lsr :
    ran [0x4A] (cpu 0x03 0x00 0x00 0xFD 0x8000 0x24 0) [] =
      some (cpu 0x01 0x00 0x00 0xFD 0x8001 0x25 2, []) ∧
    ran [0x5E, 0x10, 0x02] (cpu 0x00 0x01 0x00 0xFD 0x8000 0x24 0) [(0x211, 0xFE)] =
      some (cpu 0x00 0x01 0x00 0xFD 0x8003 0x24 7, [(0x211, 0x7F)]) := by
  decide

theorem test_rol :
    ran [0x2A] (cpu 0x40 0x00 0x00 0xFD 0x8000 0x25 0) [] =
      some (cpu 0x81 0x00 0x00 0xFD 0x8001 0xA4 2, []) ∧
    ran [0x26, 0x10] (cpu 0x00 0x00 0x00 0xFD 0x8000 0x25 0) [] =
      some (cpu 0x00 0x00 0x00 0xFD 0x8002 0x24 5, [(0x010, 0x01)]) := by
  decide

theorem test_ror :
    ran [0x6A] (cpu 0x02 0x00 0x00 0xFD 0x8000 0x25 0) [] =
      some (cpu 0x81 0x00 0x00 0xFD 0x8001 0xA4 2, []) ∧
    ran [0x76, 0x10] (cpu 0x00 0x01 0x00 0xFD 0x8000 0x25 0) [(0x011, 0x01)] =
      some (cpu 0x00 0x01 0x00 0xFD 0x8002 0xA5 6, [(0x011, 0x80)]) := by
  decide

theorem test_jmp :
    ran [0x4C, 0x00, 0xC0] (cpu 0x00 0x00 0x00 0xFD 0x8000 0x24 0) [] =
      some (cpu 0x00 0x00 0x00 0xFD 0xC000 0x24 3, []) ∧
    ran [0x6C, 0xFF, 0x02] (cpu 0x00 0x00 0x00 0xFD 0x8000 0x24 0) [(0x200, 0xA9), (0x300, 0x55)] =
      some (cpu 0x00 0x00 0x00 0xFD 0xA900 0x24 5, [(0x200, 0xA9), (0x300, 0x55)]) := by
  decide

theorem test_jsr :
    ran [0x20, 0x10, 0x80] (cpu 0x00 0x00 0x00 0xFD 0x8000 0x24 0) [] =
      some (cpu 0x00 0x00 0x00 0xFB 0x8010 0x24 6, [(0x1FC, 0x02), (0x1FD, 0x80)]) ∧
    ran [0x20, 0x10, 0x80] (cpu 0x00 0x00 0x00 0x00 0x80FE 0x24 0) [] =
      some (cpu 0x00 0x00 0x00 0xFE 0x8010 0x24 6, [(0x100, 0x81)]) := by
  decide

theorem test_rts :
    ran [0x60] (cpu 0x00 0x00 0x00 0xFB 0x8000 0x24 0) [(0x1FC, 0x02), (0x1FD, 0x80)] =
      some (cpu 0x00 0x00 0x00 0xFD 0x8003 0x24 6, [(0x1FC, 0x02), (0x1FD, 0x80)]) ∧
    ran [0x60] (cpu 0x00 0x00 0x00 0xFB 0x8000 0x24 0) [(0x1FC, 0xFF), (0x1FD, 0xFF)] =
      some (cpu 0x00 0x00 0x00 0xFD 0x0000 0x24 6, [(0x1FC, 0xFF), (0x1FD, 0xFF)]) := by
  decide

theorem test_bcc :
    ran [0x90, 0x04] (cpu 0x00 0x00 0x00 0xFD 0x8000 0x24 0) [] =
      some (cpu 0x00 0x00 0x00 0xFD 0x8006 0x24 3, []) ∧
    ran [0x90, 0x04] (cpu 0x00 0x00 0x00 0xFD 0x8000 0x25 0) [] =
      some (cpu 0x00 0x00 0x00 0xFD 0x8002 0x25 2, []) := by
  decide

theorem test_bcs :
    ran [0xB0, 0x7F] (cpu 0x00 0x00 0x00 0xFD 0x8000 0x25 0) [] =
      some (cpu 0x00 0x00 0x00 0xFD 0x8081 0x25 3, []) ∧
    ran [0xB0, 0x7F] (cpu 0x00 0x00 0x00 0xFD 0x8000 0x24 0) [] =
      some (cpu 0x00 0x00 0x00 0xFD 0x8002 0x24 2, []) := by
  decide

theorem test_beq :
    ran [0xF0, 0x02] (cpu 0x00 0x00 0x00 0xFD 0x80FD 0x26 0) [] =
      some (cpu 0x00 0x00 0x00 0xFD 0x8101 0x26 4, []) ∧
    ran [0xF0, 0x02] (cpu 0x00 0x00 0x00 0xFD 0x80FD 0x24 0) [] =
      some (cpu 0x00 0x00 0x00 0xFD 0x80FF 0x24 2, []) := by
  decide

theorem test_bne :
    ran [0xD0, 0xFB] (cpu 0x00 0x00 0x00 0xFD 0x8005 0x24 0) [] =
      some (cpu 0x00 0x00 0x00 0xFD 0x8002 0x24 3, []) ∧
    ran [0xD0, 0x00] (cpu 0x00 0x00 0x00 0xFD 0x8000 0x24 0) [] =
      some (cpu 0x00 0x00 0x00 0xFD 0x8002 0x24 3, []) := by
  decide

theorem test_bmi :
    ran [0x30, 0x80] (cpu 0x00 0x00 0x00 0xFD 0x8000 0xA4 0) [] =
      some (cpu 0x00 0x00 0x00 0xFD 0x7F82 0xA4 4, []) ∧
    ran [0x30, 0x80] (cpu 0x00 0x00 0x00 0xFD 0x8000 0x24 0) [] =
      some (cpu 0x00 0x00 0x00 0xFD 0x8002 0x24 2, []) := by
  decide

theorem test_bpl :
    ran [0x10, 0x10] (cpu 0x00 0x00 0x00 0xFD 0x8000 0x24 0) [] =
      some (cpu 0x00 0x00 0x00 0xFD 0x8012 0x24 3, []) ∧
    ran [0x10, 0x10] (cpu 0x00 0x00 0x00 0xFD 0x8000 0xA4 0) [] =
      some (cpu 0x00 0x00 0x00 0xFD 0x8002 0xA4 2, []) := by
  decide

theorem test_bvc :
    ran [0x50, 0x10] (cpu 0x00 0x00 0x00 0xFD 0x8000 0x64 0) [] =
      some (cpu 0x00 0x00 0x00 0xFD 0x8002 0x64 2, []) ∧
    ran [0x50, 0x10] (cpu 0x00 0x00 0x00 0xFD 0x8000 0x24 0) [] =
      some (cpu 0x00 0x00 0x00 0xFD 0x8012 0x24 3, []) := by
  decide

theorem test_bvs :
    ran [0x70, 0x10] (cpu 0x00 0x00 0x00 0xFD 0x8000 0x64 0) [] =
      some (cpu 0x00 0x00 0x00 0xFD 0x8012 0x64 3, []) ∧
    ran [0x70, 0x10] (cpu 0x00 0x00 0x00 0xFD 0x8000 0x24 0) [] =
      some (cpu 0x00 0x00 0x00 0xFD 0x8002 0x24 2, []) := by
  decide

theorem test_clc :
    ran [0x18] (cpu 0x00 0x00 0x00 0xFD 0x8000 0x25 0) [] =
      some (cpu 0x00 0x00 0x00 0xFD 0x8001 0x24 2, []) := by
  decide

theorem test_sec :
    ran [0x38] (cpu 0x00 0x00 0x00 0xFD 0x8000 0x24 0) [] =
      some (cpu 0x00 0x00 0x00 0xFD 0x8001 0x25 2, []) := by
  decide

theorem test_cli :
    ran [0x58] (cpu 0x00 0x00 0x00 0xFD 0x8000 0x24 0) [] =
      some (cpu 0x00 0x00 0x00 0xFD 0x8001 0x20 2, []) := by
  decide

theorem test_sei :
    ran [0x78] (cpu 0x00 0x00 0x00 0xFD 0x8000 0x20 0) [] =
      some (cpu 0x00 0x00 0x00 0xFD 0x8001 0x24 2, []) := by
  decide

theorem test_clv :
    ran [0xB8] (cpu 0x00 0x00 0x00 0xFD 0x8000 0x64 0) [] =
      some (cpu 0x00 0x00 0x00 0xFD 0x8001 0x24 2, []) := by
  decide

theorem test_cld :
    ran [0xD8] (cpu 0x00 0x00 0x00 0xFD 0x8000 0x2C 0) [] =
      some (cpu 0x00 0x00 0x00 0xFD 0x8001 0x24 2, []) := by
  decide

theorem test_sed :
    ran [0xF8] (cpu 0x00 0x00 0x00 0xFD 0x8000 0x24 0) [] =
      some (cpu 0x00 0x00 0x00 0xFD 0x8001 0x2C 2, []) := by
  decide

theorem test_nop :
    ran [0xEA] (cpu 0x00 0x00 0x00 0xFD 0x8000 0xE5 0) [] =
      some (cpu 0x00 0x00 0x00 0xFD 0x8001 0xE5 2, []) := by
  decide

theorem test_brk :
    ran [0x00] (cpu 0x00 0x00 0x00 0xFD 0x8000 0x20 0) [] =
      some (cpu 0x00 0x00 0x00 0xFA 0xA000 0x24 7, [(0x1FB, 0x30), (0x1FC, 0x02), (0x1FD, 0x80)]) ∧
    ran [0x00] (cpu 0x00 0x00 0x00 0x01 0x80FF 0xE9 0) [] =
      some (cpu 0x00 0x00 0x00 0xFE 0xA000 0xED 7, [(0x100, 0x01), (0x101, 0x81), (0x1FF, 0xF9)]) := by
  decide

theorem test_rti :
    ran [0x40] (cpu 0x00 0x00 0x00 0xFA 0x8000 0x24 0) [(0x1FB, 0x30), (0x1FC, 0x02), (0x1FD, 0x80)] =
      some (cpu 0x00 0x00 0x00 0xFD 0x8002 0x20 6, [(0x1FB, 0x30), (0x1FC, 0x02), (0x1FD, 0x80)]) ∧
    ran [0x40] (cpu 0x00 0x00 0x00 0xFA 0x8000 0x24 0) [(0x1FB, 0xCF), (0x1FC, 0x34), (0x1FD, 0x12)] =
      some (cpu 0x00 0x00 0x00 0xFD 0x1234 0xEF 6, [(0x1FB, 0xCF), (0x1FC, 0x34), (0x1FD, 0x12)]) := by
  decide

/-! ### Interrupts and illegal opcodes (95_test_vectors.md sections 2.7, 3) -/

theorem test_nmi_entry :
    ran [0xA9, 0x01] { cpu 0 0 0 0xFD 0x8123 0x65 0 with nmiPending := true } [] =
      some (cpu 0 0 0 0xFA 0x9000 0x65 7, [(0x1FB, 0x65), (0x1FC, 0x23), (0x1FD, 0x81)]) := by decide
theorem test_irq_entry_and_mask :
    ran [0xA9, 0x01] { cpu 0 0 0 0xFD 0x8123 0x21 0 with irqPending := true } [] =
      some (cpu 0 0 0 0xFA 0xA000 0x25 7, [(0x1FB, 0x21), (0x1FC, 0x23), (0x1FD, 0x81)]) ∧
    ran [0xA9, 0x01] { cpu 0 0 0 0xFD 0x8123 0x25 0 with irqPending := true } [] =
      some ({ cpu 1 0 0 0xFD 0x8125 0x25 2 with irqPending := true }, []) := by decide
theorem test_nmi_before_irq :
    ran [0xA9, 0x01] { cpu 0 0 0 0xFD 0x8123 0x20 0 with nmiPending := true, irqPending := true } [] =
      some ({ cpu 0 0 0 0xFA 0x9000 0x24 7 with irqPending := true },
        [(0x1FB, 0x20), (0x1FC, 0x23), (0x1FD, 0x81)]) := by decide
theorem test_entry_wraps_stack :
    ran [0xA9, 0x01] { cpu 0 0 0 0x01 0x8123 0x24 0 with nmiPending := true } [] =
      some (cpu 0 0 0 0xFE 0x9000 0x24 7, [(0x100, 0x23), (0x101, 0x81), (0x1FF, 0x24)]) := by decide

/-- The report of a fault: the address, the byte, and the stuck CPU. -/
def faulted : Result → Option (Word × Byte × Cpu)
  | .fault (.illegalOpcode a op t) => some (a, op, t.cpu)
  | .fault (.halted _ _)           => none
  | .next _                        => none
  | .refused _                     => none

theorem test_illegal_opcode_faults :
    faulted (cpuStep (start [0x89] (cpu 0x11 0 0 0xFD 0x8000 0xA5 0) [])) =
      some (0x8000, 0x89, { cpu 0x11 0 0 0xFD 0x8000 0xA5 0 with halted := some ⟨0x8000, 0x89⟩ }) := by decide

/-! ### Devices (95_test_vectors.md section 4) -/

/-- The bus writes, one after another. -/
def writes (l : List (Word × Byte)) (s : State) : State := l.foldl (fun t w => memWrite w.1 w.2 t) s

theorem test_bus_mirrors :
    peek 0x1923 { State.reset with ram := [(0x123, 0x5A)] } = 0x5A ∧
    (memWrite 0x1FFF 0x77 State.reset).ram = [(0x7FF, 0x77)] ∧
    (memWrite 0x3FF9 0x1E State.reset).ppu.mask = 0x1E ∧ peek 0x5FFF State.reset = 0 := by decide
theorem test_cart_windows :
    let s := start [0xEA] (cpu 0 0 0 0 0xC000 0 0) []
    peek 0x8000 s = 0xEA ∧ peek 0xC000 s = 0xEA ∧ peek 0xFFFB s = 0x90 ∧ peek 0xBFFF s = 0xA0 ∧ peek 0x6000 s = 0 ∧
    peek 0x6000 (memWrite 0x6000 0x99 { s with cart := .plain { PlainCart.empty with prgRam := some [] } }) = 0x99 := by decide
/-- R366: another mapper's own operation answers a read, and what it leaves is in the cartridge after the read. -/
theorem test_other_mapper_read (c : OtherCart) :
    memRead 0x8000 { State.reset with cart := .other c } =
      ((Config.otherReadPrg c 0x8000).1,
        { State.reset with cart := .other { c with own := (Config.otherReadPrg c 0x8000).2 } }) := rfl
theorem test_scroll_and_address :
    let s := writes [(0x2000, 0x03), (0x2005, 0x7D), (0x2005, 0x5E)] State.reset
    let u := writes [(0x2006, 0xFF), (0x2006, 0x10), (0x2007, 0xFF), (0x2007, 0x15)] s
    (s.ppu.t, s.ppu.x, s.ppu.w) = (0x6D6F, 5, false) ∧ (u.ppu.v, u.ppu.t) = (0x3F12, 0x3F10) ∧
    u.ppu.pal = [(0x00, 0x3F), (0x11, 0x15)] := by decide
theorem test_buffered_read :
    let s := writes [(0x2006, 0x24), (0x2006, 0x05), (0x2007, 0xAB), (0x2006, 0x20), (0x2006, 0x05)] State.reset
    s.ppu.nt = [(0x005, 0xAB)] ∧ peek 0x2007 s = 0 ∧ peek 0x2007 (memRead 0x2007 s).2 = 0xAB := by decide
theorem test_oam_port :
    let s := writes [(0x2003, 0xFE), (0x2004, 0x11), (0x2004, 0x22), (0x2004, 0x33)] State.reset
    s.ppu.oamAddr = 1 ∧ s.ppu.oam = [(0x00, 0x33), (0xFE, 0x11), (0xFF, 0x22)] := by decide
theorem test_status_read :
    let s : State := { State.reset with ppu := { State.reset.ppu with vblank := true } }
    peek 0x3FFA s = 0x80 ∧ peek 0x2002 (memRead 0x3FFA s).2 = 0 ∧
    (memWrite 0x2000 0x80 s).ppu.nmiRequest = true := by decide
theorem test_nametable_pages :
    let nt := ntOffset .default
    (nt .horizontal 0x2800, nt .vertical 0x2400, nt .singleScreen 0x2C00, nt .fourScreen 0x2C00) =
      (0x400, 0x400, 0x000, 0xC00) ∧
    ntOffset { Params.default with singleScreenPage := 1 } .singleScreen 0x2C01 = 0x401 := by decide
theorem test_palette_index :
    (palIndex 0x3F10, palIndex 0x3F11, palIndex 0x3F1C, palIndex 0x3FFF, palIndex 0x3F30) = (0x00, 0x11, 0x0C, 0x1F, 0x00) := by
  decide
theorem test_incrementY :
    (incrementY 0x0000, incrementY 0x7000, incrementY 0x73A0, incrementY 0x7BA0, incrementY 0x73E0, incrementY 0x7FFF) =
      (0x1000, 0x0020, 0x0800, 0x0000, 0x0000, 0x0C1F) := by decide
theorem test_controller_strobe :
    let s : State := { State.reset with pad1 := { State.reset.pad1 with buttons := 0x95 } }
    let u := writes [(0x4016, 0x01), (0x4016, 0xFE)] s
    peek 0x4016 s = 0 ∧ u.pad1 = ⟨0x95, 0x95, 0, false⟩ ∧ peek 0x4016 u = 1 ∧ peek 0x4016 (memRead 0x4016 u).2 = 0 := by
  decide

/-! ### Reset and the step from it (95_test_vectors.md sections 4.4, 6) -/

/-- The boundary reached: PC, cycles, PPU position. -/
def boundary : Result → Option (Word × Nat × Nat × Nat)
  | .next t    => some (t.cpu.pc, t.cpu.cycles, t.ppu.scanline, t.ppu.dot)
  | .fault _   => none
  | .refused _ => none

set_option maxRecDepth 100000 in
theorem test_launch :
    let s := launch .default (start [0xEA] (cpu 0 0 0 0 0x8000 0 0) []).cart
    (s.cpu.pc, s.cpu.sp, s.cpu.p, s.cpu.cycles, s.ppu.scanline, s.ppu.dot) = (0x8000, 0xFD, 0x24, 7, 0, 21) := by decide
set_option maxRecDepth 100000 in
/-- R8: the parameters are the launch's; R364, R381: CHR RAM is zero at power-on. -/
theorem test_launch_parameters :
    let s := launch ⟨0, 1, 0x34, 0xFC, 514⟩ (.plain { PlainCart.empty with chrIsRam := true, chr := [(3, 7)] })
    (s.cpu.sp, s.cpu.p, s.cart, (memWrite 0x4014 0x02 s).cpu.cycles) =
      (0xFC, 0x34, .plain { PlainCart.empty with chrIsRam := true }, 521) := by decide
set_option maxRecDepth 100000 in
theorem test_step_nop : boundary (step (State.reset.withFetchWord 8 0xEA)) = some (0x0001, 9, 0, 27) := by decide
set_option maxRecDepth 100000 in
theorem test_step_lda_absolute : boundary (step (State.reset.withFetchWord 24 0x0200AD)) = some (0x0003, 11, 0, 33) := by
  decide

/-! ### Witnesses: every statement's hypotheses are met together -/

/-- The state after an instruction. -/
def after (i : Instr) (s : State) : State :=
  match exec i s with
  | .next t    => t
  | .fault _   => s
  | .refused _ => s

/-- A boundary with `LDA #$01` at 0x8000. -/
def lda1 : State := start [0xA9, 0x01] (cpu 0x42 0x20 0x20 0xFD 0x8000 0x24 0) []

/-- A boundary with an illegal byte at 0x8000. -/
def illegal : State := start [0x02] (cpu 0 0 0 0xFD 0x8000 0x24 0) []

theorem witness_IllegalOpcodesAreTheListed105 : peek illegal.cpu.pc illegal = 0x02 := by decide
theorem witness_FetchReadsOpcodeThenOperands :
    (∃ i u, fetch lda1 = .instr i u) ∧ ∃ op u, fetch illegal = .illegal op u := ⟨⟨_, _, rfl⟩, _, _, rfl⟩
theorem witness_plainMemory :
    plainMemory 0x0000 lda1 ∧ plainMemory 0x1FFF lda1 ∧ plainMemory 0x4020 lda1 ∧ plainMemory 0xFFFF lda1 ∧
    ¬ plainMemory 0x2000 lda1 ∧ ¬ plainMemory 0x401F lda1 := by
  unfold plainMemory State.plainCart
  decide
theorem witness_RunsInstruction : AtBoundary lda1 lda1 ∧ RunsInstruction lda1 ∧ AtBoundary illegal illegal ∧
    RunsInstruction illegal :=
  ⟨.inl ⟨rfl, rfl⟩, ⟨rfl, rfl, .inl rfl⟩, .inl ⟨rfl, rfl⟩, ⟨rfl, rfl, .inl rfl⟩⟩
theorem witness_AtBoundary_input (env : EnvInput) :
    AtBoundary { lda1 with inputs := [.boundary env] } (applyEnv env lda1) := .inr ⟨env, [], rfl, rfl⟩
theorem witness_StepRunsTheDecodedInstruction :
    (∀ k < (Instr.ldaImm 1).length, plainMemory (lda1.cpu.pc + BitVec.ofNat 16 k) lda1) ∧
    decode (bytesAt lda1.cpu.pc (Instr.ldaImm 1).length lda1) = .ok (.ldaImm 1, []) ∧
    ∃ u t, Fetches lda1 (encode (.ldaImm 1)) u ∧ exec (.ldaImm 1) u = .next t := by
  refine ⟨?_, rfl, _, _, ⟨by decide, by decide, rfl⟩, rfl⟩
  unfold plainMemory State.plainCart
  decide
theorem witness_IllegalOpcodeHaltsUntilReset :
    peek illegal.cpu.pc illegal = 0x02 ∧ (0x02 : Byte).toNat ∈ illegalOpcodes := by decide
theorem witness_InterruptArbitration :
    lda1.cpu.halted = none ∧ (requestNmi lda1).cpu.nmiPending = true ∧
    (let s := requestIrq (lda1.setP 0x20)
     s.cpu.nmiPending = false ∧ s.cpu.irqPending = true ∧ s.cpu.p.getLsbD 2 = false) ∧
    (requestIrq lda1).cpu.p.getLsbD 2 = true := by decide
theorem witness_InterruptEntrySavesPcAndStatus :
    Memory.wf lda1.ram ∧ (nmiVector = 0xFFFA ∧ irqVector = 0xFFFE) ∧ lda1.cart.mapper = .noBankSwitching := by decide
theorem witness_CpuStepHasThreeOutcomes :
    (∃ t, cpuStep lda1 = .next t) ∧ (∃ t, cpuStep illegal = .fault (.illegalOpcode 0x8000 0x02 t)) ∧
    cpuStep (halt 0x8000 0x02 illegal) = .fault (.halted 0x8000 0x02) := ⟨⟨_, rfl⟩, ⟨_, rfl⟩, rfl⟩
theorem witness_EveryInstructionCompletes : ∃ t, exec (.staAbs 0x4014) lda1 = .next t := ⟨_, rfl⟩
theorem witness_RegistersHaveTheListedWriters :
    (after (.ldaImm 1) lda1).cpu.a ≠ lda1.cpu.a ∧ (after .aslAcc lda1).cpu.a ≠ lda1.cpu.a ∧
    (after .inx lda1).cpu.x ≠ lda1.cpu.x ∧ (after .dey lda1).cpu.y ≠ lda1.cpu.y ∧
    (after .txs lda1).cpu.sp ≠ lda1.cpu.sp ∧ (after (.bne 2) lda1).cpu.pc ≠ lda1.cpu.pc ∧
    (after .sec lda1).cpu.p.getLsbD 0 ≠ lda1.cpu.p.getLsbD 0 ∧
    (after (.adcImm 0x42) lda1).cpu.p.getLsbD 6 ≠ lda1.cpu.p.getLsbD 6 ∧
    (after .cli lda1).cpu.p.getLsbD 2 ≠ lda1.cpu.p.getLsbD 2 ∧ (after .sed lda1).cpu.p.getLsbD 3 ≠ lda1.cpu.p.getLsbD 3 ∧
    (after (.cmpImm 0x42) lda1).cpu.p.getLsbD 1 ≠ lda1.cpu.p.getLsbD 1 ∧
    (after (.ldxImm 0x80) lda1).cpu.p.getLsbD 7 ≠ lda1.cpu.p.getLsbD 7 := by decide
theorem witness_DirectAndIndexedAddressing :
    (effAddr (.abx 0x02F0) lda1).crossed = true ∧ (effAddr (.abx 0x02DF) lda1).crossed = false ∧
    (effAddr (.aby 0xFFE0) lda1).addr = 0x0000 ∧ (effAddr (.zpx 0xF0) lda1).addr = 0x0010 := by decide
theorem witness_IndirectAddressing :
    let s : State := { lda1 with ram := [(0x00, 0x02), (0xFF, 0x34)] }
    (effAddr (.izx 0xDF) s).addr = 0x0234 ∧ (effAddr (.izy 0xFF) s).addr = 0x0254 ∧
    (effAddr (.izy 0xFF) s).crossed = false := by decide
theorem witness_OperandIsOneRead :
    plainMemory (effAddr (.zp 0x10) lda1).addr lda1 ∧ ¬ plainMemory (effAddr (.abs 0x2002) lda1).addr lda1 := by
  unfold plainMemory State.plainCart
  decide
theorem witness_LoadsSetRegisterZeroNegative :
    (⟨.ldaImm 1, 0xA9, .imm 1, 2⟩ : ReadForm) ∈ Forms.lda 1 2 ∧ (⟨.ldxImm 1, 0xA2, .imm 1, 2⟩ : ReadForm) ∈ Forms.ldx 1 2 ∧
    (⟨.ldyImm 1, 0xA0, .imm 1, 2⟩ : ReadForm) ∈ Forms.ldy 1 2 := ⟨.head _, .head _, .head _⟩
theorem witness_StoresWriteTheRegister :
    (⟨.staZp 1, 0x85, .zp 1, 3⟩ : StoreForm) ∈ Forms.sta 1 2 ∧ (⟨.stxZp 1, 0x86, .zp 1, 3⟩ : StoreForm) ∈ Forms.stx 1 2 ∧
    (⟨.styZp 1, 0x84, .zp 1, 3⟩ : StoreForm) ∈ Forms.sty 1 2 := ⟨.head _, .head _, .head _⟩
theorem witness_StackInstructions : Memory.wf lda1.ram ∧ stackCell (0x00 : Byte) = 0x100 ∧ stackCell (0xFF : Byte) = 0x1FF := by
  decide
theorem witness_AddWithCarry : (⟨.adcImm 1, 0x69, .imm 1, 2⟩ : ReadForm) ∈ Forms.adc 1 2 := .head _
theorem witness_SubtractWithBorrow : (⟨.sbcImm 1, 0xE9, .imm 1, 2⟩ : ReadForm) ∈ Forms.sbc 1 2 := .head _
theorem witness_ComparesSetFlagsOnly :
    (⟨.cmpImm 1, 0xC9, .imm 1, 2⟩ : ReadForm) ∈ Forms.cmp 1 2 ∧ (⟨.cpxImm 1, 0xE0, .imm 1, 2⟩ : ReadForm) ∈ Forms.cpx 1 2 ∧
    (⟨.cpyImm 1, 0xC0, .imm 1, 2⟩ : ReadForm) ∈ Forms.cpy 1 2 := ⟨.head _, .head _, .head _⟩
theorem witness_IncrementAndDecrement :
    (⟨.incZp 1, 0xE6, .mem (.zp 1), 5⟩ : ModifyForm) ∈ Forms.inc 1 2 ∧
    (⟨.decZp 1, 0xC6, .mem (.zp 1), 5⟩ : ModifyForm) ∈ Forms.dec 1 2 := ⟨.head _, .head _⟩
theorem witness_LogicAndBitTest :
    (⟨.andImm 1, 0x29, .imm 1, 2⟩ : ReadForm) ∈ Forms.and 1 2 ∧ (⟨.oraImm 1, 0x09, .imm 1, 2⟩ : ReadForm) ∈ Forms.ora 1 2 ∧
    (⟨.eorImm 1, 0x49, .imm 1, 2⟩ : ReadForm) ∈ Forms.eor 1 2 ∧
    (⟨.bitZp 1, 0x24, .mem (.zp 1), 3⟩ : ReadForm) ∈ Forms.bit 1 2 := ⟨.head _, .head _, .head _, .head _⟩
theorem witness_ShiftsAndRotates :
    ((⟨.aslAcc, 0x0A, .acc, 2⟩ : ModifyForm) ∈ Forms.asl 1 2 ∧
      (0x84 : Nat) = 2 * (placeOperand .acc lda1).1.toNat % 256 ∧ false = decide (128 ≤ (placeOperand .acc lda1).1.toNat)) ∧
    ((⟨.lsrAcc, 0x4A, .acc, 2⟩ : ModifyForm) ∈ Forms.lsr 1 2 ∧
      (0x21 : Nat) = (placeOperand .acc lda1).1.toNat / 2 ∧ false = decide ((placeOperand .acc lda1).1.toNat % 2 = 1)) ∧
    ((⟨.rolAcc, 0x2A, .acc, 2⟩ : ModifyForm) ∈ Forms.rol 1 2 ∧
      (0x84 : Nat) = (2 * (placeOperand .acc lda1).1.toNat + carryNat lda1.cpu.p) % 256) ∧
    ((⟨.rorAcc, 0x6A, .acc, 2⟩ : ModifyForm) ∈ Forms.ror 1 2 ∧
      (0x21 : Nat) = (placeOperand .acc lda1).1.toNat / 2 + 128 * carryNat lda1.cpu.p) :=
  ⟨⟨.head _, by decide, by decide⟩, ⟨.head _, by decide, by decide⟩, ⟨.head _, by decide⟩, .head _, by decide⟩
theorem witness_JumpsGoToTheTarget :
    (0x0200 : Word).toNat = (0x02FF : Word).toNat / 256 * 256 + ((0x02FF : Word).toNat + 1) % 256 ∧
    (0x0211 : Word).toNat = (0x0210 : Word).toNat / 256 * 256 + ((0x0210 : Word).toNat + 1) % 256 := by decide
theorem witness_SubroutineCallAndReturn : Memory.wf ([(0x1FE, 0x02), (0x1FF, 0x80)] : Memory) := by decide
theorem witness_BranchesFollowTheirFlag :
    ((Instr.bcc 2, (0x90 : Byte), 0, false) ∈
      [(Instr.bcc 2, (0x90 : Byte), 0, false), (.bcs 2, 0xB0, 0, true)]) ∧
    lda1.cpu.p.getLsbD 0 = false ∧ lda1.cpu.p.getLsbD 1 ≠ true := by decide
theorem witness_FlagInstructionsWriteOneFlag :
    (Instr.clc, (0x18 : Byte), [(0, false)]) ∈ [(Instr.clc, (0x18 : Byte), [(0, false)]), (.nop, 0xEA, [])] := by decide
theorem witness_BreakEntersTheIrqVector : Memory.wf lda1.ram ∧ lda1.cart.mapper = .noBankSwitching := by decide
theorem witness_PushThenPullRestores : Memory.wf lda1.ram ∧ (nmiVector = nmiVector ∨ nmiVector = irqVector) := ⟨by decide, .inl rfl⟩
theorem witness_NonStoringInstructionsKeepMemory :
    ((Instr.ldaAbs 0x2002).mnemonic ∉ [Mnemonic.sta, .stx, .sty, .pha, .php, .jsr, .brk, .inc, .dec, .asl, .lsr, .rol, .ror] ∧
      ∃ t, exec (.ldaAbs 0x2002) lda1 = .next t) ∧
    Instr.aslAcc ∈ [Instr.aslAcc, .lsrAcc, .rolAcc, .rorAcc] ∧ ∃ t, exec .aslAcc lda1 = .next t :=
  ⟨⟨by decide, _, rfl⟩, by decide, _, rfl⟩
theorem witness_StoringInstructionsChangeOneByte :
    (∃ t, exec (.staZp 0x10) lda1 = .next t) ∧ plainMemory 0x0011 lda1 ∧
    ¬ sameByte 0x0011 (effAddr (.zp 0x10) lda1).addr ∧ sameByte 0x0810 (effAddr (.zp 0x10) lda1).addr := by
  refine ⟨⟨_, rfl⟩, ?_⟩
  unfold plainMemory State.plainCart sameByte
  decide
theorem witness_StoredBytesReadBack :
    State.reset.MemoriesSound ∧ State.reset.cart = .plain .empty ∧ PlainCart.empty.prgRam = none ∧
    { PlainCart.empty with prgRam := some [] }.prgRam ≠ none := ⟨reset_memoriesSound, rfl, rfl, by decide⟩
theorem witness_isPpuAddress :
    isPpuAddress 0 0x2000 ∧ isPpuAddress 7 0x3FFF ∧ isPpuAddress 2 0x3FFA ∧ isPpuAddress 1 0x2001 ∧ isPpuAddress 3 0x2003 ∧
    isPpuAddress 4 0x2004 ∧ isPpuAddress 5 0x2005 ∧ isPpuAddress 6 0x2006 ∧ ¬ isPpuAddress 7 0x1FFF ∧
    ¬ isPpuAddress 0 0x4000 := by
  unfold isPpuAddress
  decide
theorem witness_isUnmapped :
    isUnmapped 0x4000 ∧ isUnmapped 0x4013 ∧ isUnmapped 0x4015 ∧ isUnmapped 0x4018 ∧ isUnmapped 0x401F ∧
    ¬ isUnmapped 0x3FFF ∧ ¬ isUnmapped 0x4014 ∧ ¬ isUnmapped 0x4016 ∧ ¬ isUnmapped 0x4017 ∧ ¬ isUnmapped 0x4020 := by
  unfold isUnmapped
  decide
theorem witness_BusReadAndWriteMap : ppuRegisters[0]? = some .ppuctrl ∧ ppuRegisters[7]? = some .ppudata := by decide
theorem witness_BusReadSideEffects :
    ¬ isPpuAddress 2 0x4015 ∧ ¬ isPpuAddress 7 0x4015 ∧ (0x4015 : Word) ≠ 0x4016 ∧ (0x4015 : Word) ≠ 0x4017 ∧
    ¬ isPpuAddress 2 0xFFFF ∧ ¬ isPpuAddress 7 0xFFFF ∧ lda1.plainCart := by
  unfold isPpuAddress State.plainCart
  decide
theorem witness_ControlMaskAndOamAddressWrites :
    isPpuAddress 0 0x2008 ∧ isPpuAddress 1 0x2009 ∧ isPpuAddress 3 0x3FFB ∧ isPpuAddress 5 0x200D ∧ isPpuAddress 6 0x3FFE ∧
    isPpuAddress 2 0x2002 ∧ (0 : Nat) ∈ [0, 1, 3, 5, 6] ∧ (6 : Nat) ∈ [0, 1, 3, 5, 6] := by
  unfold isPpuAddress
  decide
theorem witness_ScrollAndAddressWriteTwice :
    State.reset.ppu.w = false ∧ (memWrite 0x2005 0 State.reset).ppu.w = true := by decide
theorem witness_DataPortReadsAndWrites :
    isPpuAddress 7 0x2007 ∧
    ((0x3EFF : PpuAddr).toNat = (0x3EFF : BitVec 15).toNat % 0x4000 ∧ (0x3F00 : BitVec 15).toNat = (0x3EFF + 1) % 32768) ∧
    ((0x3F00 : PpuAddr).toNat = (0x7F00 : BitVec 15).toNat % 0x4000 ∧ (0x7F01 : BitVec 15).toNat = (0x7F00 + 1) % 32768) ∧
    ((0x3FFF : PpuAddr).toNat = (0x7FFF : BitVec 15).toNat % 0x4000 ∧ (0x001F : BitVec 15).toNat = (0x7FFF + 32) % 32768) := by
  unfold isPpuAddress
  decide
theorem witness_OamPortAndDma :
    Memory.wf State.reset.ppu.oam ∧ (0x1F : Byte).toNat < 0x20 ∧
    (0x41 ≤ (0x41 : Byte).toNat ∧ State.reset.cart.mapper = .noBankSwitching) ∧
    ¬ ((0x20 : Byte).toNat < 0x20 ∨ 0x41 ≤ (0x20 : Byte).toNat) ∧ ¬ ((0x40 : Byte).toNat < 0x20 ∨ 0x41 ≤ (0x40 : Byte).toNat) := by
  decide
theorem witness_NametableMirroring :
    0x2000 ≤ (0x2000 : PpuAddr).toNat ∧ (0x2FFF : PpuAddr).toNat ≤ 0x2FFF ∧ (0x2EFF : PpuAddr).toNat ≤ 0x2EFF ∧
    Memory.wf State.reset.ppu.nt := by decide
theorem witness_PaletteMirroring :
    0x3F00 ≤ (0x3F00 : PpuAddr).toNat ∧ 0x3F00 ≤ (0x3FFF : PpuAddr).toNat ∧ Memory.wf State.reset.ppu.pal ∧
    palIndex 0x3F10 = palIndex 0x3F00 ∧ palIndex 0x3F11 ≠ palIndex 0x3F01 := by decide
theorem witness_ControllersReadInOrder :
    (0x01 : Byte).getLsbD 0 = true ∧ (0xFE : Byte).getLsbD 0 = false ∧ State.reset.pad1.strobe = false ∧
    State.reset.pad2.strobe = false ∧
    (let up := memWrite 0x4016 0x01 State.reset
     let read := fun s : State => (memRead 0x4016 s).2
     (up.pad1.strobe = true ∧ up.pad2.strobe = true) ∧ (read State.reset).pad1.index < 8 ∧
     ¬ (read (read (read (read (read (read (read (read State.reset)))))))).pad1.index < 8) := by decide
theorem witness_CartridgeWindows :
    (0x1FFF : PpuAddr).toNat ≤ 0x1FFF ∧ PlainCart.empty.wellFormed ∧
    { PlainCart.empty with chrIsRam := true, chr := [(0x1FFF, 7)], prgRam := some [] }.wellFormed := by decide
theorem witness_TicksAdvanceThePosition :
    let p : Ppu := { Ppu.clearedAt 340 with scanline := 261 }
    p.scanline ≤ 261 ∧ p.dot ≤ 340 := by decide
theorem witness_VblankAndNmiTiming :
    let at240 : Ppu := { Ppu.clearedAt 0 with scanline := 241 }
    let at261 : Ppu := { Ppu.clearedAt 0 with scanline := 261 }
    let at260 : Ppu := { Ppu.clearedAt 340 with scanline := 260 }
    let early : Params := { Params.default with prerenderClearDot := 0 }
    ((at240.tick .default (.plain .empty)).1.scanline = 241 ∧ (at240.tick .default (.plain .empty)).1.dot = 1) ∧
    ((at261.tick .default (.plain .empty)).1.scanline = 261 ∧ (at261.tick .default (.plain .empty)).1.dot = 1) ∧
    ((at260.tick early (.plain .empty)).1.scanline = 261 ∧ (at260.tick early (.plain .empty)).1.dot = early.prerenderClearDot.val) ∧
    (((Ppu.clearedAt 0).tick .default (.plain .empty)).1.scanline, ((Ppu.clearedAt 0).tick .default (.plain .empty)).1.dot)
      ∉ [(241, 1), (261, 1)] := by decide
theorem witness_FrameBuffersChangeWhereTheRulesSay :
    (let p : Ppu := { Ppu.clearedAt 0 with pal := [(0, 5)] }
     Memory.read (p.tick .default (.plain .empty)).1.back 0 ≠ Memory.read p.back 0) ∧
    (let p : Ppu := { Ppu.clearedAt 340 with scanline := 261 }
     (p.tick .default (.plain .empty)).1.scanline = 0 ∧ (p.tick .default (.plain .empty)).1.dot = 0 ∧ p.dot = 340) ∧
    ((Ppu.clearedAt 339).dot < 340 ∧ { Ppu.clearedAt 340 with scanline := 260 }.scanline < 261) := by decide
theorem witness_ScrollCounters :
    (0x6000 : BitVec 15).toNat / 4096 < 7 ∧
    ((0x73A0 : BitVec 15).toNat / 4096 = 7 ∧ (0x73A0 : BitVec 15).toNat / 32 % 32 = 29) ∧
    ((0x73E0 : BitVec 15).toNat / 4096 = 7 ∧ (0x73E0 : BitVec 15).toNat / 32 % 32 = 31) ∧
    ((0x73C0 : BitVec 15).toNat / 4096 = 7 ∧ (0x73C0 : BitVec 15).toNat / 32 % 32 = 30) := by decide
theorem witness_BackgroundPixelFetches :
    let p : Ppu := { Ppu.clearedAt 0 with v := 0x041F, x := 7, mask := 0x0A }
    (2 ^ 13 + 1024 * 0 + 32 * 0 + (31 + (7 + 255) / 8) % 32 = (0x201F : PpuAddr).toNat ∧
      0x23C0 + ((31 + (7 + 255) / 8) % 32) / 4 = (0x23C7 : PpuAddr).toNat) ∧
    (p.mask.getLsbD 3 = true ∧ p.mask.getLsbD 1 = true) ∧ (ppuRead .default (.plain .empty) p 0x201F).1.toNat = 0 := by decide
theorem witness_SpritePixelIsTheFirstOpaque :
    let first : Sprite := ⟨0, 9, 0, 0, 0⟩
    let last : Sprite := ⟨1, 2, 0, 0x80, 0⟩
    let p : Ppu := { Ppu.clearedAt 0 with mask := 0x14, lineSprites := [first, last] }
    (first.y.toNat + 1 ≤ 10 ∧ 10 - 1 - first.y.toNat < 8) ∧ (last.y.toNat + 1 ≤ 10 ∧ 10 - 1 - last.y.toNat < 8) ∧
    ¬ (p.mask.getLsbD 4 = false ∨ (0 < 8 ∧ p.mask.getLsbD 2 = false)) ∧ p.lineSprites = first :: [last] := by decide
theorem witness_ResetClearsAndKeeps :
    State.reset.plainCart ∧ { PlainCart.empty with chrIsRam := true }.launchable := ⟨rfl, by decide⟩
theorem witness_SystemStepOrder :
    (halt 0x8000 0x02 illegal).cpu.halted = some ⟨0x8000, 0x02⟩ ∧ State.reset.cpu.halted = none ∧
    (∃ t, cpuStep lda1 = .next t) ∧ (∃ f, cpuStep illegal = .fault f) ∧
    lda1.inputs = [] ∧ { lda1 with inputs := [.boundary (quietEnv lda1)] }.inputs = .boundary (quietEnv lda1) :: [] ∧
    { illegal with inputs := [.reset] }.inputs = .reset :: [] := ⟨rfl, rfl, ⟨_, rfl⟩, ⟨_, rfl⟩, rfl, rfl, rfl⟩
theorem witness_StepKeepsMemoriesSound : State.reset.MemoriesSound ∧ ∃ t, StepsTo State.reset t :=
  ⟨reset_memoriesSound, _, rfl⟩
theorem witness_StepKeepsRangesAndLockstep :
    State.reset.RangesSound ∧ State.reset.Lockstep ∧ ∃ t, StepsTo State.reset t :=
  ⟨⟨by decide, by decide, by decide, by decide, by decide, by decide⟩, rfl, _, rfl⟩
theorem witness_StepKeepsStoredStatusBits : State.reset.StatusSound ∧ ∃ t, StepsTo State.reset t := ⟨⟨⟨rfl, rfl⟩, rfl, rfl⟩, _, rfl⟩

end Sys2Proof.Tests
end

section
/-! PROOFS. Every step keeps every memory sound and the mapper (10_state.md R46, R47; 61_platform_devices.md R313, R360). -/

namespace Sys2Proof.Machine

/-- From `s` to `t` sound memories stay sound, and the mapper stays. -/
def KeepsSound (s t : State) : Prop := (s.MemoriesSound → t.MemoriesSound) ∧ t.cart.mapper = s.cart.mapper

theorem KeepsSound.trans {s t u : State} (h : KeepsSound s t) (k : KeepsSound t u) : KeepsSound s u :=
  ⟨fun hs => k.1 (h.1 hs), k.2.trans h.2⟩

/-- Registers, pads, host inputs and parameters hold no memory. -/
theorem KeepsSound.of_memories {s t : State} (hr : t.ram = s.ram) (hp : t.ppu = s.ppu) (hc : t.cart = s.cart) :
    KeepsSound s t := by
  refine ⟨fun h => ?_, by rw [hc]⟩
  rw [State.memoriesSound_iff] at *
  rwa [hr, hp, hc]

theorem OnlyReadEffects.keepsSound {s t : State} (h : OnlyReadEffects s t) : KeepsSound s t := ⟨h.sound, h.mapper⟩

theorem memWrite_keepsSound (a : Word) (v : Byte) (s : State) : KeepsSound s (memWrite a v s) :=
  ⟨fun h => memWrite_sound h a v, memWrite_mapper a v s⟩

/-- Stack stores with reads of the cartridge: the third shape of an instruction, and an interrupt entry. -/
theorem stackStores_keepsSound {s : State} {m : Memory} {d : Cart} (hm : StackStores s.ram m) (hd : CartRead s.cart d)
    (c : Cpu) : KeepsSound s { s with ram := m, cart := d, cpu := c } := by
  refine ⟨fun h => ?_, hd.mapper⟩
  rw [State.memoriesSound_iff] at *
  obtain ⟨hram, hppu, hcart⟩ := h
  exact ⟨hm.sound hram, hppu, hd.sound hcart⟩

theorem Effect.keepsSound {s t : State} (h : Effect s t) : KeepsSound s t := by
  cases h with
  | read u c hu _ => exact hu.effects.keepsSound.trans (.of_memories rfl rfl rfl)
  | write u a v c hu _ =>
    exact (hu.effects.keepsSound.trans (memWrite_keepsSound a v u)).trans (.of_memories rfl rfl rfl)
  | stack m d c hm hd _ => exact stackStores_keepsSound hm hd c

theorem Fetched.After.keepsSound {s u : State} (h : Fetched.After s u) : KeepsSound s u := by
  obtain ⟨t, ht, hu⟩ := h.reads
  rw [hu]
  exact ht.effects.keepsSound.trans (.of_memories rfl rfl rfl)

theorem interruptEntry_keepsSound {v : Word} (hv : v = nmiVector ∨ v = irqVector) (s : State) :
    KeepsSound s (interruptEntry v s) := by
  rw [interruptEntry_eq hv]
  exact stackStores_keepsSound (.push (.push (.push (.none _) _ _) _ _) _ _) (Cart.readWord_read _ _) _

theorem CpuStepped.keepsSound {s t : State} (h : CpuStepped s t) : KeepsSound s t := by
  cases h with
  | entry v hv c _ =>
    exact KeepsSound.trans (t := { s with cpu := c }) (.of_memories rfl rfl rfl) (interruptEntry_keepsSound hv _)
  | run i u t hu ht => exact hu.keepsSound.trans (exec_effect ht).keepsSound

theorem applyEnv_keepsSound (env : EnvInput) (s : State) : KeepsSound s (applyEnv env s) := by
  rw [applyEnv_eq]
  exact .of_memories rfl rfl rfl

theorem catchUp_keepsSound (n : Nat) (s : State) : KeepsSound s (catchUp n s) := by
  refine ⟨fun h => catchUp_sound h n, ?_⟩
  rw [catchUp_cart]
  exact (Ppu.ticks_read _ _ _ _).mapper

theorem CartSound.afterReset {c : Cart} (h : CartSound c) : CartSound c.afterReset := by
  cases c with
  | plain q => exact h
  | other o => exact fun _ e => nomatch e

/-- A reset clears RAM and the PPU, and reads the vector and ticks (R380). -/
theorem hostReset_keepsSound (s : State) : KeepsSound s (hostReset s) := by
  rw [hostReset_eq]
  have hread := (s.cart.afterReset.readWord_read resetVector).trans (Ppu.ticks_read s.params _ (Ppu.clearedAt 0) 21)
  refine ⟨fun h => State.memoriesSound_iff.2 ⟨⟨Memory.wf_nil, nofun⟩, ?_, ?_⟩, ?_⟩
  · exact Ppu.ticks_induct (motive := fun r => PpuSound r.1) (fun _ c h => h.tick _ c) 21 (.cleared 0)
  · exact hread.sound (State.memoriesSound_iff.1 h).2.2.afterReset
  · exact hread.mapper.trans (Cart.afterReset_mapper _)

theorem step_keepsSound {s t : State} (h : StepsTo s t) : KeepsSound s t := by
  rcases step_cases h with ⟨env, later, u, hu, rfl⟩ | ⟨later, rfl⟩
  · have inputsTaken : KeepsSound s { s with inputs := later } := .of_memories rfl rfl rfl
    exact ((inputsTaken.trans (applyEnv_keepsSound env _)).trans (cpuStep_cases hu).keepsSound).trans
      (catchUp_keepsSound _ u)
  · exact KeepsSound.trans (t := { s with inputs := later }) (.of_memories rfl rfl rfl) (hostReset_keepsSound _)

/-- Settles O57: each part of a step (the boundary's inputs, the fetch, an instruction or an entry, the catch-up, a
reset) keeps sound memories and the mapper. -/
theorem stepKeepsMemoriesSound : Obligations.StepKeepsMemoriesSound := by
  intro s t hs h
  obtain ⟨sound, mapper⟩ := step_keepsSound h
  exact ⟨sound hs, mapper⟩

end Sys2Proof.Machine
end

section
/-! PROOFS. Every step keeps the stored status bits and the parameters, and leaves no NMI request in the PPU (10_state.md
R31; 60_exceptions.md R261, R285). -/

namespace Sys2Proof.Machine

/-- What no instruction changes in the CPU holds of its whole effect: the reads and the bus write before the new CPU keep
it too. -/
theorem Effect.cpuKept {s t : State} (h : Effect s t) : CpuKept s.cpu t.cpu := by
  cases h with
  | read u c _ hc => exact hc
  | stack m d c _ _ hc => exact hc
  | write u a v c hu hc =>
    have hw := memWrite_kept a v u
    have hp := congrArg Cpu.p hw.cpu
    have hucpu := hu.effects.cpu
    refine ⟨?_, ?_, ?_, ?_, ?_, ?_⟩
    · rw [hc.nmiPending, hw.cpu, hucpu]
    · rw [hc.irqPending, hw.cpu, hucpu]
    · rw [hc.halted, hw.cpu, hucpu]
    · rw [hc.unused, hp, hucpu]
    · rw [hc.break_, hp, hucpu]
    · exact (Nat.add_le_add_right (hucpu ▸ hw.cycles) 2).trans hc.cycles

theorem CpuKept.storedKept {c c' : Cpu} (h : CpuKept c c') : StoredKept c.p c'.p := ⟨h.unused, h.break_⟩

theorem StoredKept.storedBits {p p' : Byte} (h : StoredKept p p') (hp : StoredBits p) : StoredBits p' :=
  ⟨h.1.trans hp.1, h.2.trans hp.2⟩

/-- A CPU step keeps the stored bits: an entry sets I alone, an instruction keeps them. -/
theorem CpuStepped.storedKept {s t : State} (h : CpuStepped s t) : StoredKept s.cpu.p t.cpu.p := by
  cases h with
  | entry v hv c hc =>
    rw [interruptEntry_eq hv, hc]
    exact storedKept_put (by decide) (by decide) _ _
  | run i u t hu ht =>
    obtain ⟨w, hw⟩ := hu.cpu
    have h := (exec_effect ht).cpuKept.storedKept
    rwa [hw] at h

/-- A tick makes no NMI request while PPUCTRL bit 7 is clear (R336). -/
theorem Ppu.tick_nmiRequest_of_disabled {p : Ppu} (cfg : Params) (c : Cart) (hctrl : p.ctrl.getLsbD 7 = false)
    (hreq : p.nmiRequest = false) : (p.tick cfg c).1.nmiRequest = false := by
  rw [Ppu.tick_nmiRequest, Ppu.tickFlags]
  split
  · show (p.advancePosition.nmiRequest || p.advancePosition.ctrl.getLsbD 7) = false
    rw [Ppu.advancePosition_nmiRequest, Ppu.advancePosition_ctrl, hreq, hctrl]
    rfl
  · split <;> exact (Ppu.advancePosition_nmiRequest p).trans hreq

/-- A reset clears PPUCTRL, so the dots it runs make no request. -/
theorem hostReset_requestMoved (s : State) : (hostReset s).RequestMoved := by
  rw [hostReset_eq]
  have cleared : (Ppu.clearedAt 0).ctrl.getLsbD 7 = false := by decide
  exact (Ppu.ticks_induct (motive := fun r => r.1.ctrl.getLsbD 7 = false ∧ r.1.nmiRequest = false)
    (fun p c h => ⟨by rw [Ppu.tick_ctrl, h.1], Ppu.tick_nmiRequest_of_disabled _ c h.1 h.2⟩) 21 ⟨cleared, rfl⟩).2

theorem catchUp_requestMoved (n : Nat) (s : State) : (catchUp n s).RequestMoved := by
  rw [catchUp_eq]
  rfl

theorem step_params {s t : State} (h : StepsTo s t) : t.params = s.params := by
  rcases step_cases h with ⟨env, later, u, hu, rfl⟩ | ⟨later, rfl⟩
  · rw [catchUp_params, (cpuStep_cases hu).params, applyEnv_params]
  · rw [hostReset_params]

theorem step_requestMoved {s t : State} (h : StepsTo s t) : t.RequestMoved := by
  rcases step_cases h with ⟨env, later, u, hu, rfl⟩ | ⟨later, rfl⟩
  · exact catchUp_requestMoved _ u
  · exact hostReset_requestMoved _

/-- P after a step: the stored bits of P before it, or `RESET_P` (R50). -/
theorem step_storedBits {s t : State} (h : StepsTo s t) : StoredKept s.cpu.p t.cpu.p ∨ t.cpu.p = s.params.resetP := by
  rcases step_cases h with ⟨env, later, u, hu, rfl⟩ | ⟨later, rfl⟩
  · left
    have h := (cpuStep_cases hu).storedKept
    rw [applyEnv_eq] at h
    rwa [catchUp_eq]
  · right
    rw [hostReset_eq]
    rfl

/-- Settles O59: a CPU step keeps the stored bits and the catch-up moves the request; a reset stores `RESET_P` and its
dots make no request. -/
theorem stepKeepsStoredStatusBits : Obligations.StepKeepsStoredStatusBits := by
  refine fun s t h => ⟨fun ⟨hp, hreset⟩ => ?_, step_requestMoved h, step_params h⟩
  refine ⟨?_, by rwa [step_params h]⟩
  rcases step_storedBits h with hk | hk
  · exact hk.storedBits hp
  · rwa [hk]

end Sys2Proof.Machine
end

section
/-! PROOFS. The state right after reset (10_state.md R50; 70_reset_and_hazards.md R380, R381). -/

namespace Sys2Proof.Machine

theorem Ppu.clearedAt_renderingEnabled (n : Nat) : (Ppu.clearedAt n).renderingEnabled = false := by
  simp [Ppu.renderingEnabled, Ppu.clearedAt]

/-- With rendering off a pixel is the colour of palette entry 0, here blank: no cell is listed, nothing is fetched. -/
theorem Ppu.clearedAt_renderPixel (cfg : Params) (c : Cart) (n px s : Nat) :
    (Ppu.clearedAt n).renderPixel cfg c px s = (Ppu.clearedAt n, c) := by
  have blank : ((Ppu.clearedAt n).colour 0).setWidth 6 = Memory.blank := by simp [Ppu.colour, Ppu.clearedAt]
  rw [Ppu.renderPixel, Ppu.clearedAt_renderingEnabled, if_neg (by decide), blank]
  rfl

/-- On the first line a cleared PPU only moves. -/
theorem Ppu.clearedAt_tick (cfg : Params) (c : Cart) {n : Nat} (hn : n < 340) :
    (Ppu.clearedAt n).tick cfg c = (Ppu.clearedAt (n + 1), c) := by
  have off := Ppu.clearedAt_renderingEnabled (n + 1)
  have moved : (Ppu.clearedAt n).advancePosition = Ppu.clearedAt (n + 1) := if_pos hn
  have flags : (Ppu.clearedAt (n + 1)).tickFlags cfg = Ppu.clearedAt (n + 1) := rfl
  have pixel : (Ppu.clearedAt (n + 1)).tickPixel cfg c = (Ppu.clearedAt (n + 1), c) := by
    rw [Ppu.tickPixel, Ppu.clearedAt_renderPixel, ite_self]
  have scroll : (Ppu.clearedAt (n + 1)).tickScroll = Ppu.clearedAt (n + 1) := by
    rw [Ppu.tickScroll, off, if_neg (by simp)]
  have sprites : (Ppu.clearedAt (n + 1)).tickSprites = Ppu.clearedAt (n + 1) := by
    rw [Ppu.tickSprites, off, if_neg (by simp : ¬ (_ ∧ false = true))]
    exact ite_self _
  rw [Ppu.tick, moved, flags, pixel]
  simp only [scroll, sprites]

theorem Ppu.clearedAt_ticks (cfg : Params) (c : Cart) (k : Nat) {n : Nat} (h : n + k ≤ 340) :
    (Ppu.clearedAt n).ticks cfg c k = (Ppu.clearedAt (n + k), c) := by
  induction k generalizing n with
  | zero => rfl
  | succ k ih =>
    rw [Ppu.ticks_succ, Ppu.clearedAt_tick cfg c (by omega), ih (by omega), show n + 1 + k = n + (k + 1) by omega]

/-- The launch of the empty cartridge, whose reset vector reads 0x0000 (log entry 1). -/
theorem launch_empty : launch .default (.plain .empty) = State.reset := by
  rw [launch, hostReset_eq]
  simp only [Ppu.clearedAt_ticks _ _ 21 (n := 0) (by decide)]
  rfl

/-- Settles O56: the memories are empty, the position (0, 21) is 3 dots for each of the 7 cycles. -/
theorem resetStateIsSound : Obligations.ResetStateIsSound := by
  have ranges : State.reset.RangesSound := ⟨by decide, by decide, by decide, by decide, by decide, by decide⟩
  have status : State.reset.StatusSound := ⟨⟨rfl, rfl⟩, rfl, rfl⟩
  exact ⟨reset_memoriesSound, ranges, status, rfl, rfl, launch_empty.symm⟩

end Sys2Proof.Machine
end

section
/-! PROOFS. What is pushed comes back (10_state.md R31; 41_stack.md R163; 44_control_flow.md R212; 45_flags_system.md
R239). -/

namespace Sys2Proof.Machine

/-- PLP and RTI undo what PHP and BRK pushed: the pushed byte differs from P in bits 5 and 4 only, which a pull keeps. -/
theorem statusPulled_pushedByInstruction (p : Byte) : statusPulled (statusPushedByInstruction p) p = p := by
  apply BitVec.eq_of_getLsbD_eq
  intro i hi
  rw [getLsbD_statusPulled _ _ _ hi, getLsbD_statusPushedByInstruction _ _ hi]
  split <;> rfl

/-- RTI also undoes the I flag of the entry: I comes from the pulled byte. -/
theorem statusPulled_pushed_masked {pushed p : Byte}
    (h : ∀ i < 8, i ≠ 5 → i ≠ 4 → pushed.getLsbD i = p.getLsbD i) : statusPulled pushed (Flag.i.put true p) = p := by
  apply BitVec.eq_of_getLsbD_eq
  intro i hi
  rw [getLsbD_statusPulled _ _ _ hi]
  split
  · rw [getLsbD_put _ _ _ _ hi, if_neg (by simp only [Flag.bit]; omega)]
  · exact h i hi (by omega) (by omega)

theorem statusPulled_brk (p : Byte) : statusPulled (statusPushedByInstruction p) (Flag.i.put true p) = p :=
  statusPulled_pushed_masked fun i hi h5 h4 => by
    rw [getLsbD_statusPushedByInstruction _ _ hi, if_neg (by omega)]

theorem statusPulled_interrupt (p : Byte) : statusPulled (statusPushedByInterrupt p) (Flag.i.put true p) = p :=
  statusPulled_pushed_masked fun i hi h5 h4 => by
    rw [getLsbD_statusPushedByInterrupt _ _ hi, if_neg h5, if_neg h4]

theorem CellsStored.read {w : Nat} {m m' l : List (Nat × BitVec w)} (h : CellsStored m m' l) {a : Nat} {v : BitVec w}
    (hc : (a, v) ∈ l) : Memory.read m' a = v := h.2.1 _ hc

/-- The cells of a pushed word (R75). -/
theorem pushWord_cells {m : Memory} (hw : Memory.wf m) (sp : Byte) (w : Word) :
    CellsStored m (Memory.write (Memory.write m (stackCell sp) (hi w)) (stackCell (sp - 1)) (lo w))
      [(stackCell sp, hi w), (stackCell (sp - 1), lo w)] := by
  have apart : stackCell (sp - 1) ≠ stackCell sp := by rw [Ne, stackCell_inj]; bv_omega
  exact (CellsStored.single hw _ _).snoc _ _ (by simpa using apart)

/-- The cells of an entry's frame: a word and a status byte (R271). -/
theorem frame_cells {m : Memory} (hw : Memory.wf m) (sp : Byte) (w : Word) (status : Byte) :
    CellsStored m (Memory.write (Memory.write (Memory.write m (stackCell sp) (hi w)) (stackCell (sp - 1)) (lo w))
        (stackCell (sp - 2)) status)
      [(stackCell sp, hi w), (stackCell (sp - 1), lo w), (stackCell (sp - 2), status)] := by
  have apart : stackCell (sp - 2) ≠ stackCell sp ∧ stackCell (sp - 2) ≠ stackCell (sp - 1) := by
    simp only [Ne, stackCell_inj]
    constructor <;> bv_omega
  exact (pushWord_cells hw sp w).snoc _ _ (by simpa using apart)

/-- A pull after a push, with nothing but cycles between. -/
theorem pull_push {s : State} (hw : Memory.wf s.ram) (v : Byte) (n : Nat) :
    (pull ((push v s).addCycles n)).1 = v ∧
      (pull ((push v s).addCycles n)).2.cpu = { s.cpu with cycles := s.cpu.cycles + n } := by
  have back : s.cpu.sp - 1 + 1 = s.cpu.sp := by bv_omega
  rw [pull_eq, push_eq]
  simp only [stackByte, State.setSP, State.addCycles, back, Memory.read_write_same hw, and_self]

/-- A word pulled after a word pushed, with nothing but PC and cycles between. -/
theorem pullWord_pushWord {s : State} (hw : Memory.wf s.ram) (w pc : Word) (n : Nat) :
    (pullWord (((pushWord w s).setPC pc).addCycles n)).1 = w ∧
      (pullWord (((pushWord w s).setPC pc).addCycles n)).2.cpu =
        { s.cpu with pc := pc, cycles := s.cpu.cycles + n } := by
  have low : s.cpu.sp - 2 + 1 = s.cpu.sp - 1 := by bv_omega
  have high : s.cpu.sp - 2 + 2 = s.cpu.sp := by bv_omega
  have cells := pushWord_cells hw s.cpu.sp w
  have hhi := cells.read (a := stackCell s.cpu.sp) (v := hi w) (by simp)
  have hlo := cells.read (a := stackCell (s.cpu.sp - 1)) (v := lo w) (by simp)
  rw [pullWord_eq, pushWord_eq]
  simp only [stackByte, State.setSP, State.setPC, State.addCycles, low, high, hhi, hlo, w16_hi_lo, and_self]

/-- RTI after an entry: the whole CPU is as before it, but for PC, which is the return address, and the cycles. -/
theorem returnFromInterrupt_takeInterrupt {vector : Word} (hv : 0x4020 ≤ vector.toNat) (hv' : vector.toNat < 0xFFFF)
    {s : State} (hw : Memory.wf s.ram) (returnTo : Word) {status : Byte}
    (hp : statusPulled status (Flag.i.put true s.cpu.p) = s.cpu.p) :
    (returnFromInterrupt (takeInterrupt vector returnTo status s)).cpu =
      { s.cpu with pc := returnTo, cycles := s.cpu.cycles + 7 } := by
  have third : s.cpu.sp - 3 + 1 = s.cpu.sp - 2 := by bv_omega
  have second : s.cpu.sp - 3 + 2 = s.cpu.sp - 1 := by bv_omega
  have first : s.cpu.sp - 3 + 3 = s.cpu.sp := by bv_omega
  have cells := frame_cells hw s.cpu.sp returnTo status
  have hhi := cells.read (a := stackCell s.cpu.sp) (v := hi returnTo) (by simp)
  have hlo := cells.read (a := stackCell (s.cpu.sp - 1)) (v := lo returnTo) (by simp)
  have hstatus := cells.read (a := stackCell (s.cpu.sp - 2)) (v := status) (by simp)
  rw [returnFromInterrupt_eq, takeInterrupt_eq hv hv']
  simp only [stackByte, third, second, first, hhi, hlo, hstatus, w16_hi_lo, hp]

theorem php_plp {s : State} (hw : Memory.wf s.ram) :
    ∃ t u, exec .php s = .next t ∧ exec .plp t = .next u ∧ u.cpu.p = s.cpu.p ∧ u.cpu.sp = s.cpu.sp := by
  obtain ⟨hv, hcpu⟩ := pull_push hw (statusPushedByInstruction s.cpu.p) 3
  refine ⟨_, _, rfl, rfl, ?_, ?_⟩
  · simp only [State.addCycles_cpu_p, pullStatus, State.setP_cpu_p, hv, hcpu, statusPulled_pushedByInstruction]
  · simp only [State.addCycles_cpu_sp, pullStatus, State.setP_cpu_sp, hcpu]

theorem pha_pla {s : State} (hw : Memory.wf s.ram) :
    ∃ t u, exec .pha s = .next t ∧ exec .pla t = .next u ∧ u.cpu.a = s.cpu.a ∧ u.cpu.sp = s.cpu.sp := by
  obtain ⟨hv, hcpu⟩ := pull_push hw s.cpu.a 3
  have hsp := congrArg Cpu.sp hcpu
  exact ⟨_, _, rfl, rfl, hv, hsp⟩

/-- JSR pushes the address of its own last byte, and RTS adds the 1 (R211, R212). -/
theorem jsr_rts (d16 : Word) {s : State} (hw : Memory.wf s.ram) :
    ∃ t u, exec (.jsr d16) s = .next t ∧ exec .rts t = .next u ∧ u.cpu.pc = s.cpu.pc ∧ u.cpu.sp = s.cpu.sp := by
  obtain ⟨hv, hcpu⟩ := pullWord_pushWord hw (s.cpu.pc - 1) d16 6
  have hsp := congrArg Cpu.sp hcpu
  have hpc := (congrArg (· + 1) hv).trans (BitVec.sub_add_cancel _ _)
  exact ⟨_, _, rfl, rfl, hpc, hsp⟩

/-- An entry, then RTI: the same PC and the same P. -/
theorem entry_rti {vector : Word} (hv : vector = nmiVector ∨ vector = irqVector) {s : State} (hw : Memory.wf s.ram) :
    (returnFromInterrupt (interruptEntry vector s)).cpu = { s.cpu with cycles := s.cpu.cycles + 7 } := by
  rcases hv with rfl | rfl <;>
    exact returnFromInterrupt_takeInterrupt (by decide) (by decide) hw _ (statusPulled_interrupt _)

/-- BRK, then RTI: one byte after BRK is skipped (R238). -/
theorem brk_rti {s : State} (hw : Memory.wf s.ram) :
    (returnFromInterrupt (takeInterrupt irqVector (s.cpu.pc + 1) (statusPushedByInstruction s.cpu.p) s)).cpu =
      { s.cpu with pc := s.cpu.pc + 1, cycles := s.cpu.cycles + 7 } :=
  returnFromInterrupt_takeInterrupt (by decide) (by decide) hw _ (statusPulled_brk _)

/-- Settles O31: a pull after a push, a word pulled after a word pushed, and RTI after an entry. -/
theorem pushThenPullRestores : Obligations.PushThenPullRestores := by
  refine fun d16 s hw => ⟨php_plp hw, pha_pla hw, jsr_rts d16 hw, fun vector hv => ?_, ?_⟩
  · refine ⟨_, rfl, ?_⟩
    simp only [State.addCycles, entry_rti hv hw, and_self]
  · refine ⟨_, _, rfl, rfl, ?_⟩
    simp only [State.addCycles, brk_rti hw, and_self]

end Sys2Proof.Machine
end

section
/-! PROOFS. Each register and each flag is written only by the instructions the rules list for it (10_state.md R21, R27 to
R30, R33). -/

namespace Sys2Proof.Machine

/-- The parts of the CPU that have a list of writers. -/
inductive CpuPart
  | a
  | x
  | y
  | sp
  | pc
  | flag (f : Flag)

/-- What a part holds. -/
def CpuPart.Value : CpuPart → Type
  | .a | .x | .y | .sp => Byte
  | .pc                => Word
  | .flag _            => Bool

/-- A part of the CPU, read. -/
def CpuPart.read : (q : CpuPart) → Cpu → q.Value
  | .a, c      => c.a
  | .x, c      => c.x
  | .y, c      => c.y
  | .sp, c     => c.sp
  | .pc, c     => c.pc
  | .flag f, c => f.get c.p

/-- Whether the instruction is in the rule's list for the part; bits 5 and 4 of P have no writer. -/
def isListedWriter (i : Instr) : CpuPart → Bool
  | .a => decide
    (i.mnemonic ∈ [.lda, .pla, .txa, .tya, .adc, .sbc, .and, .ora, .eor] ∨ i ∈ [.aslAcc, .lsrAcc, .rolAcc, .rorAcc])
  | .x => decide (i.mnemonic ∈ [.ldx, .tax, .tsx, .inx, .dex])
  | .y => decide (i.mnemonic ∈ [.ldy, .tay, .iny, .dey])
  | .sp => decide (i.mnemonic ∈ [.txs, .pha, .php, .pla, .plp, .jsr, .rts, .brk, .rti])
  | .pc => decide (i.mnemonic ∈ [.jmp, .jsr, .rts, .rti, .brk, .bcc, .bcs, .beq, .bne, .bmi, .bpl, .bvc, .bvs])
  | .flag .c => decide (i.mnemonic ∈ [.adc, .sbc, .cmp, .cpx, .cpy, .asl, .lsr, .rol, .ror, .clc, .sec, .plp, .rti])
  | .flag .v => decide (i.mnemonic ∈ [.adc, .sbc, .bit, .clv, .plp, .rti])
  | .flag .i => decide (i.mnemonic ∈ [.sei, .cli, .plp, .rti, .brk])
  | .flag .d => decide (i.mnemonic ∈ [.sed, .cld, .plp, .rti])
  | .flag .z | .flag .n => decide
    (i.mnemonic ∈ [.lda, .ldx, .ldy, .tax, .tay, .txa, .tya, .tsx, .pla, .adc, .sbc, .and, .ora, .eor, .inc, .inx,
      .iny, .dec, .dex, .dey, .asl, .lsr, .rol, .ror, .cmp, .cpx, .cpy, .bit, .plp, .rti])
  | .flag .u | .flag .b => false

/-- From `c` to `c'` only the parts in `l` can differ. -/
def WritesOnly (l : List CpuPart) (c c' : Cpu) : Prop := ∀ q ∉ l, q.read c' = q.read c

/-- From `p` to `p'` only the flags in `l` can differ. -/
def FlagsOnly (l : List Flag) (p p' : Byte) : Prop := ∀ f ∉ l, f.get p' = f.get p

theorem WritesOnly.trans {l m : List CpuPart} {c d e : Cpu} (h : WritesOnly l c d) (k : WritesOnly m d e) :
    WritesOnly (l ++ m) c e := by
  intro q hq
  rw [List.mem_append, not_or] at hq
  exact (k q hq.2).trans (h q hq.1)

/-- A part that differs is one of those written, so the instruction is in its list where they all list it. -/
theorem WritesOnly.listed {l : List CpuPart} {c c' : Cpu} {i : Instr} (h : WritesOnly l c c')
    (hl : l.all (isListedWriter i) = true := by rfl) (q : CpuPart) (hq : q.read c' ≠ q.read c) :
    isListedWriter i q = true :=
  List.all_eq_true.1 hl q (by_contra fun hn => hq (h q hn))

/-! ### The flags each status operation writes -/

theorem flagsOnly_put (f : Flag) (v : Bool) (p : Byte) : FlagsOnly [f] p (f.put v p) := by
  intro g hg
  rw [get_put, if_neg (List.mem_singleton.not.1 hg)]

theorem FlagsOnly.trans {l m : List Flag} {p q r : Byte} (h : FlagsOnly l p q) (k : FlagsOnly m q r) :
    FlagsOnly (l ++ m) p r := by
  intro f hf
  rw [List.mem_append, not_or] at hf
  exact (k f hf.2).trans (h f hf.1)

theorem flagsOnly_setZN (v p : Byte) : FlagsOnly [.z, .n] p (setZN v p) :=
  (flagsOnly_put .z _ p).trans (flagsOnly_put .n _ _)

theorem flagsOnly_carryZN (b : Bool) (r p : Byte) : FlagsOnly [.c, .z, .n] p (setZN r (Flag.c.put b p)) :=
  (flagsOnly_put .c b p).trans (flagsOnly_setZN r _)

theorem flagsOnly_addStatus (a m p : Byte) : FlagsOnly [.c, .v, .z, .n] p (addStatus a m p) :=
  ((flagsOnly_put .c _ p).trans (flagsOnly_put .v _ _)).trans (flagsOnly_setZN _ _)

theorem flagsOnly_compareStatus (r m p : Byte) : FlagsOnly [.c, .z, .n] p (compareStatus r m p) :=
  ((flagsOnly_put .c _ p).trans (flagsOnly_put .z _ _)).trans (flagsOnly_put .n _ _)

theorem flagsOnly_bitTestStatus (a m p : Byte) : FlagsOnly [.z, .n, .v] p (bitTestStatus a m p) :=
  ((flagsOnly_put .z _ p).trans (flagsOnly_put .n _ _)).trans (flagsOnly_put .v _ _)

theorem flagsOnly_statusPulled (m p : Byte) : FlagsOnly [.n, .v, .d, .i, .z, .c] p (statusPulled m p) := by
  intro f hf
  have hub : f = .u ∨ f = .b := by cases f <;> simp at hf ⊢
  rw [Flag.get, getLsbD_statusPulled _ _ _ (bit_lt f), Flag.get]
  rcases hub with rfl | rfl <;> rfl

/-! ### The parts each CPU update writes -/

section Updates

variable (c : Cpu)

theorem writesOnly_cycles (n : Nat) : WritesOnly [] c { c with cycles := n } := by
  intro q _
  cases q <;> rfl

theorem writesOnly_a (v : Byte) : WritesOnly [.a] c { c with a := v } := by
  intro q hq
  cases q with
  | a => exact absurd (List.mem_singleton_self _) hq
  | _ => rfl

theorem writesOnly_x (v : Byte) : WritesOnly [.x] c { c with x := v } := by
  intro q hq
  cases q with
  | x => exact absurd (List.mem_singleton_self _) hq
  | _ => rfl

theorem writesOnly_y (v : Byte) : WritesOnly [.y] c { c with y := v } := by
  intro q hq
  cases q with
  | y => exact absurd (List.mem_singleton_self _) hq
  | _ => rfl

theorem writesOnly_sp (v : Byte) : WritesOnly [.sp] c { c with sp := v } := by
  intro q hq
  cases q with
  | sp => exact absurd (List.mem_singleton_self _) hq
  | _ => rfl

theorem writesOnly_pc (w : Word) : WritesOnly [.pc] c { c with pc := w } := by
  intro q hq
  cases q with
  | pc => exact absurd (List.mem_singleton_self _) hq
  | _ => rfl

end Updates

theorem writesOnly_p {l : List Flag} {c : Cpu} {p : Byte} (h : FlagsOnly l c.p p) :
    WritesOnly (l.map .flag) c { c with p := p } := by
  intro q hq
  cases q with
  | flag f => exact h f fun hf => hq (List.mem_map_of_mem hf)
  | _ => rfl

theorem setP_writes {l : List Flag} {p : Byte} {s : State} (h : FlagsOnly l s.cpu.p p) :
    WritesOnly (l.map .flag) s.cpu (s.setP p).cpu := writesOnly_p h

/-- A loaded A, with Z and N (R27). -/
theorem loadA_writes (v : Byte) (s : State) : WritesOnly [.a, .flag .z, .flag .n] s.cpu (s.loadA v).cpu :=
  (writesOnly_a s.cpu v).trans (writesOnly_p (flagsOnly_setZN v _))

theorem loadX_writes (v : Byte) (s : State) : WritesOnly [.x, .flag .z, .flag .n] s.cpu (s.loadX v).cpu :=
  (writesOnly_x s.cpu v).trans (writesOnly_p (flagsOnly_setZN v _))

theorem loadY_writes (v : Byte) (s : State) : WritesOnly [.y, .flag .z, .flag .n] s.cpu (s.loadY v).cpu :=
  (writesOnly_y s.cpu v).trans (writesOnly_p (flagsOnly_setZN v _))

theorem addAct_writes (m : Byte) (s : State) :
    WritesOnly [.a, .flag .c, .flag .v, .flag .z, .flag .n] s.cpu (addAct m s).cpu :=
  (writesOnly_a s.cpu _).trans (writesOnly_p (flagsOnly_addStatus _ m _))

theorem addCycles_writes {l : List CpuPart} {c : Cpu} {s : State} (h : WritesOnly l c s.cpu) (n : Nat) :
    WritesOnly l c (s.addCycles n).cpu := by
  have hn := h.trans (writesOnly_cycles s.cpu (s.cpu.cycles + n))
  rwa [List.append_nil] at hn

/-! ### The parts each shape of an instruction writes -/

section Shapes

variable {l : List CpuPart}

theorem CpuPart.read_cycles (q : CpuPart) (c : Cpu) (n : Nat) : q.read { c with cycles := n } = q.read c :=
  writesOnly_cycles c n q List.not_mem_nil

theorem readOp_writes {act : Byte → State → State} (h : ∀ m t, WritesOnly l t.cpu (act m t).cpu) (src : Source)
    (base : Nat) (s : State) : WritesOnly l s.cpu (readOp act src base s).cpu :=
  fun q hq => readOp_keeps q.read q.read_cycles act (fun m t => h m t q hq) src base s

/-- A read instruction that writes P alone. -/
theorem readOp_status_writes {fs : List Flag} {st : Byte → State → Byte} (h : ∀ m t, FlagsOnly fs t.cpu.p (st m t))
    (src : Source) (base : Nat) (s : State) :
    WritesOnly (fs.map .flag) s.cpu (readOp (fun m t => t.setP (st m t)) src base s).cpu :=
  readOp_writes (fun m t => setP_writes (h m t)) src base s

theorem storeOp_writes (v : Byte) (m : MemMode) (base : Nat) (s : State) : WritesOnly [] s.cpu (storeOp v m base s).cpu :=
  fun q _ => storeOp_keeps q.read q.read_cycles v m base s

theorem branchOp_writes (f : Flag) (wanted : Bool) (d : Byte) (s : State) :
    WritesOnly [.pc] s.cpu (branchOp f wanted d s).cpu :=
  fun q hq => branchOp_keeps q.read q.read_cycles (fun c w => writesOnly_pc c w q hq) f wanted d s

theorem modifyOp_mem_writes {f : Byte → Byte → Byte × Byte} {fs : List Flag} (h : ∀ m p, FlagsOnly fs p (f m p).2)
    (m : MemMode) (base : Nat) (s : State) : WritesOnly (fs.map .flag) s.cpu (modifyOp f (.mem m) base s).cpu :=
  fun q hq => modifyOp_mem_keeps q.read q.read_cycles f (fun m c => writesOnly_p (h m c.p) q hq) m base s

theorem modifyOp_acc_writes {f : Byte → Byte → Byte × Byte} {fs : List Flag} (h : ∀ m p, FlagsOnly fs p (f m p).2)
    (base : Nat) (s : State) : WritesOnly (.a :: fs.map .flag) s.cpu (modifyOp f .acc base s).cpu :=
  fun q hq => modifyOp_acc_keeps q.read q.read_cycles f
    (fun m c => (writesOnly_a c _).trans (writesOnly_p (c := { c with a := (f m c.p).1 }) (h m c.p)) q hq) base s

theorem setFlag_writes (f : Flag) (v : Bool) (s : State) (n : Nat) :
    WritesOnly [.flag f] s.cpu ((s.setFlag f v).addCycles n).cpu :=
  addCycles_writes (setP_writes (flagsOnly_put f v s.cpu.p)) n

theorem push_writes (v : Byte) (s : State) (n : Nat) : WritesOnly [.sp] s.cpu ((push v s).addCycles n).cpu := by
  rw [push_eq]
  exact addCycles_writes (s := { s with ram := _, cpu := { s.cpu with sp := s.cpu.sp - 1 } }) (writesOnly_sp s.cpu _) n

theorem aslByte_flags (m p : Byte) : FlagsOnly [.c, .z, .n] p (aslByte m p).2 := flagsOnly_carryZN _ _ p
theorem lsrByte_flags (m p : Byte) : FlagsOnly [.c, .z, .n] p (lsrByte m p).2 := flagsOnly_carryZN _ _ p
theorem rolByte_flags (m p : Byte) : FlagsOnly [.c, .z, .n] p (rolByte m p).2 := flagsOnly_carryZN _ _ p
theorem rorByte_flags (m p : Byte) : FlagsOnly [.c, .z, .n] p (rorByte m p).2 := flagsOnly_carryZN _ _ p

end Shapes

/-- Whatever part an instruction changes lists it among its writers. -/
theorem exec_changes_listed {i : Instr} {s t : State} (h : exec i s = .next t) :
    ∀ q : CpuPart, q.read t.cpu ≠ q.read s.cpu → isListedWriter i q = true := by
  cases i <;> obtain rfl := Host.Outcome.next.inj h
  case ldaImm | ldaZp | ldaZpx | ldaAbs | ldaAbx | ldaAby | ldaIzx | ldaIzy =>
    exact (readOp_writes loadA_writes _ _ s).listed
  case ldxImm | ldxZp | ldxZpy | ldxAbs | ldxAby => exact (readOp_writes loadX_writes _ _ s).listed
  case ldyImm | ldyZp | ldyZpx | ldyAbs | ldyAbx => exact (readOp_writes loadY_writes _ _ s).listed
  case staZp | staZpx | staAbs | staAbx | staAby | staIzx | staIzy | stxZp | stxZpy | stxAbs | styZp | styZpx | styAbs =>
    exact (storeOp_writes _ _ _ s).listed
  case tax | tsx | inx | dex => exact (addCycles_writes (loadX_writes _ s) 2).listed
  case tay | iny | dey => exact (addCycles_writes (loadY_writes _ s) 2).listed
  case txa | tya => exact (addCycles_writes (loadA_writes _ s) 2).listed
  case txs => exact (addCycles_writes (s := s.setSP _) (writesOnly_sp s.cpu _) 2).listed
  case pha | php => exact (push_writes _ s 3).listed
  case pla =>
    rw [pull_eq]
    exact (addCycles_writes ((writesOnly_sp s.cpu _).trans (loadA_writes _ (s.setSP _))) 4).listed
  case plp =>
    rw [pullStatus, pull_eq]
    exact (((writesOnly_sp s.cpu _).trans (writesOnly_p (flagsOnly_statusPulled _ _))).trans
      (writesOnly_cycles _ _)).listed
  case adcImm | adcZp | adcZpx | adcAbs | adcAbx | adcAby | adcIzx | adcIzy | sbcImm | sbcZp | sbcZpx | sbcAbs | sbcAbx
      | sbcAby | sbcIzx | sbcIzy =>
    exact (readOp_writes (fun m t => addAct_writes _ t) _ _ s).listed
  case cmpImm | cmpZp | cmpZpx | cmpAbs | cmpAbx | cmpAby | cmpIzx | cmpIzy | cpxImm | cpxZp | cpxAbs | cpyImm | cpyZp
      | cpyAbs =>
    exact (readOp_status_writes (fun m t => flagsOnly_compareStatus _ m _) _ _ s).listed
  case bitZp | bitAbs => exact (readOp_status_writes (fun m t => flagsOnly_bitTestStatus _ m _) _ _ s).listed
  case andImm | andZp | andZpx | andAbs | andAbx | andAby | andIzx | andIzy | oraImm | oraZp | oraZpx | oraAbs | oraAbx
      | oraAby | oraIzx | oraIzy | eorImm | eorZp | eorZpx | eorAbs | eorAbx | eorAby | eorIzx | eorIzy =>
    exact (readOp_writes (fun m t => loadA_writes _ t) _ _ s).listed
  case incZp | incZpx | incAbs | incAbx =>
    exact (modifyOp_mem_writes (f := incByte) (fun m p => flagsOnly_setZN (m + 1) p) _ _ s).listed
  case decZp | decZpx | decAbs | decAbx =>
    exact (modifyOp_mem_writes (f := decByte) (fun m p => flagsOnly_setZN (m - 1) p) _ _ s).listed
  case aslZp | aslZpx | aslAbs | aslAbx => exact (modifyOp_mem_writes aslByte_flags _ _ s).listed
  case lsrZp | lsrZpx | lsrAbs | lsrAbx => exact (modifyOp_mem_writes lsrByte_flags _ _ s).listed
  case rolZp | rolZpx | rolAbs | rolAbx => exact (modifyOp_mem_writes rolByte_flags _ _ s).listed
  case rorZp | rorZpx | rorAbs | rorAbx => exact (modifyOp_mem_writes rorByte_flags _ _ s).listed
  case aslAcc => exact (modifyOp_acc_writes aslByte_flags _ s).listed
  case lsrAcc => exact (modifyOp_acc_writes lsrByte_flags _ s).listed
  case rolAcc => exact (modifyOp_acc_writes rolByte_flags _ s).listed
  case rorAcc => exact (modifyOp_acc_writes rorByte_flags _ s).listed
  case jmpAbs => exact (addCycles_writes (s := s.setPC _) (writesOnly_pc s.cpu _) 3).listed
  case jmpInd d16 =>
    have hcpu : (memRead16PW d16 s).2.cpu = s.cpu := by simp [memRead16PW, readPair]
    have hpc : WritesOnly [.pc] s.cpu ((memRead16PW d16 s).2.setPC (memRead16PW d16 s).1).cpu :=
      hcpu ▸ writesOnly_pc (memRead16PW d16 s).2.cpu (memRead16PW d16 s).1
    exact (addCycles_writes hpc 5).listed
  case jsr d16 =>
    rw [pushWord_eq]
    exact (((writesOnly_sp s.cpu _).trans (writesOnly_pc _ d16)).trans (writesOnly_cycles _ _)).listed
  case rts =>
    rw [pullWord_eq]
    exact (((writesOnly_sp s.cpu _).trans (writesOnly_pc _ _)).trans (writesOnly_cycles _ _)).listed
  case bcc | bcs | beq | bne | bmi | bpl | bvc | bvs => exact (branchOp_writes _ _ _ s).listed
  case clc | sec | cli | sei | clv | cld | sed => exact (setFlag_writes _ _ s 2).listed
  case nop => exact (writesOnly_cycles s.cpu _).listed
  case brk =>
    rw [takeInterrupt_eq (by decide) (by decide)]
    exact ((((writesOnly_sp s.cpu _).trans (writesOnly_p (flagsOnly_put .i true _))).trans (writesOnly_pc _ _)).trans
      (writesOnly_cycles _ _)).listed
  case rti =>
    rw [returnFromInterrupt_eq]
    exact ((((writesOnly_sp s.cpu _).trans (writesOnly_p (flagsOnly_statusPulled _ _))).trans
      (writesOnly_pc _ _)).trans (writesOnly_cycles _ _)).listed

/-- Settles O11: each clause is the list of one part of the CPU, the last that of Z and of N. -/
theorem registersHaveTheListedWriters : Obligations.RegistersHaveTheListedWriters := by
  intro i s t h
  have writer : ∀ q : CpuPart, q.read t.cpu ≠ q.read s.cpu → isListedWriter i q = true := exec_changes_listed h
  refine ⟨fun ha => of_decide_eq_true (writer .a ha), fun hx => of_decide_eq_true (writer .x hx),
    fun hy => of_decide_eq_true (writer .y hy), fun hsp => of_decide_eq_true (writer .sp hsp),
    fun hpc => of_decide_eq_true (writer .pc hpc), fun hc => of_decide_eq_true (writer (.flag .c) hc),
    fun hv => of_decide_eq_true (writer (.flag .v) hv), fun hi => of_decide_eq_true (writer (.flag .i) hi),
    fun hd => of_decide_eq_true (writer (.flag .d) hd), ?_⟩
  rintro (hz | hn)
  · exact of_decide_eq_true (writer (.flag .z) hz)
  · exact of_decide_eq_true (writer (.flag .n) hn)

end Sys2Proof.Machine
end

section
/-! PROOFS. The bus, address range by address range, and the side effects of its reads (20_memory.md R65 to R70, R80). -/

namespace Sys2Proof.Machine

/-! ### The decoder -/

/-- The decoder's three index bits name the register the rule's list has at that index (R69). -/
theorem ppuRegisters_ofIndex (i : BitVec 3) : ppuRegisters[i.toNat]? = some (PpuReg.ofIndex i) := by
  revert i
  decide

theorem toNat_regIndex (a : Word) : (a.setWidth 3).toNat = a.toNat % 8 := BitVec.toNat_setWidth 3 a

theorem ppuRegisters_mod (a : Word) : ppuRegisters[a.toNat % 8]? = some (PpuReg.ofIndex (a.setWidth 3)) := by
  rw [← ppuRegisters_ofIndex, toNat_regIndex]

theorem busTarget_ppu {i : Nat} {r : PpuReg} {a : Word} (h : isPpuAddress i a) (hr : ppuRegisters[i]? = some r) :
    busTarget a = .ppuReg r := by
  obtain ⟨hlo, hhi, rfl⟩ := h
  rw [ppuRegisters_mod] at hr
  rw [busTarget, if_neg (by omega), if_pos (by omega), Option.some.inj hr]

theorem busTarget_unmapped {a : Word} (h : isUnmapped a) : busTarget a = .unmapped := by
  unfold isUnmapped at h
  unfold busTarget
  repeat rw [if_neg (by omega)]
  rw [if_pos (by omega)]

theorem busTarget_oamDma : busTarget 0x4014 = .oamDma := by decide
theorem busTarget_port1 : busTarget 0x4016 = .port1 := by decide
theorem busTarget_port2 : busTarget 0x4017 = .port2 := by decide

/-- The seven kinds of address (R65). -/
theorem busAddress_cases (a : Word) :
    a.toNat < 0x2000 ∨ (∃ i r, isPpuAddress i a ∧ ppuRegisters[i]? = some r) ∨ a = 0x4014 ∨ a = 0x4016 ∨ a = 0x4017 ∨
      isUnmapped a ∨ 0x4020 ≤ a.toNat := by
  by_cases hppu : 0x2000 ≤ a.toNat ∧ a.toNat < 0x4000
  · exact .inr (.inl ⟨_, _, ⟨hppu.1, hppu.2, rfl⟩, ppuRegisters_mod a⟩)
  · unfold isUnmapped
    bv_omega

/-! ### Reads and writes -/

theorem memRead_ppu {i : Nat} {r : PpuReg} {a : Word} (h : isPpuAddress i a) (hr : ppuRegisters[i]? = some r)
    (s : State) :
    memRead a s = ((ppuRegRead s.params s.cart s.ppu r).1,
      { s with ppu := (ppuRegRead s.params s.cart s.ppu r).2.1, cart := (ppuRegRead s.params s.cart s.ppu r).2.2 }) := by
  rw [memRead, busTarget_ppu h hr]

theorem bitByte_eq (b : Bool) : bitByte b = BitVec.ofNat 8 (bitNat b) := by cases b <;> rfl

theorem memRead_port1 (s : State) :
    memRead 0x4016 s = (BitVec.ofNat 8 (bitNat s.pad1.read.1), { s with pad1 := s.pad1.read.2 }) := by
  rw [memRead, busTarget_port1, ← bitByte_eq]

theorem memRead_port2 (s : State) :
    memRead 0x4017 s = (BitVec.ofNat 8 (bitNat s.pad2.read.1), { s with pad2 := s.pad2.read.2 }) := by
  rw [memRead, busTarget_port2, ← bitByte_eq]

theorem memRead_oamDma (s : State) : memRead 0x4014 s = (0, s) := by rw [memRead, busTarget_oamDma]

theorem memRead_unmapped {a : Word} (h : isUnmapped a) (s : State) : memRead a s = (0, s) := by
  rw [memRead, busTarget_unmapped h]

theorem memWrite_ppu {i : Nat} {r : PpuReg} {a : Word} (h : isPpuAddress i a) (hr : ppuRegisters[i]? = some r)
    (v : Byte) (s : State) :
    memWrite a v s =
      { s with ppu := (ppuRegWrite s.params s.cart s.ppu r v).1, cart := (ppuRegWrite s.params s.cart s.ppu r v).2 } := by
  rw [memWrite, busTarget_ppu h hr]

theorem memWrite_oamDma (v : Byte) (s : State) : memWrite 0x4014 v s = oamDma v s := by
  rw [memWrite, busTarget_oamDma]

theorem getLsbD_zero_eq (v : Byte) : v.getLsbD 0 = decide (v.toNat % 2 = 1) := Nat.testBit_zero v.toNat

/-- The strobe is the low bit of the byte, for both controllers (R67, R352). -/
theorem memWrite_strobe (v : Byte) (s : State) :
    memWrite 0x4016 v s =
      { s with
        pad1 := s.pad1.writeStrobe (decide (v.toNat % 2 = 1)), pad2 := s.pad2.writeStrobe (decide (v.toNat % 2 = 1)) } := by
  rw [memWrite, busTarget_port1, ← getLsbD_zero_eq]

theorem memWrite_port2 (v : Byte) (s : State) : memWrite 0x4017 v s = s := by rw [memWrite, busTarget_port2]

theorem memWrite_unmapped {a : Word} (h : isUnmapped a) (v : Byte) (s : State) : memWrite a v s = s := by
  rw [memWrite, busTarget_unmapped h]

/-- Settles O35: each clause is the read or the write of one kind of address. -/
theorem busReadAndWriteMap : Obligations.BusReadAndWriteMap := by
  intro a v s
  refine ⟨fun h => memRead_ram (by omega) s, fun i r h hr => memRead_ppu h hr s, ?port1, ?port2, ?readNothing,
    fun h => memRead_cart h s, fun h hp => memRead_plain (.inr ⟨h, hp⟩), fun h => memWrite_ram (by omega) v s,
    fun i r h hr => memWrite_ppu h hr v s, ?dma, ?strobe, ?writeNothing, fun h => memWrite_cart h v s⟩
  case port1 => rintro rfl; exact memRead_port1 s
  case port2 => rintro rfl; exact memRead_port2 s
  case readNothing =>
    rintro (h | rfl)
    · exact memRead_unmapped h s
    · exact memRead_oamDma s
  case dma => rintro rfl; exact memWrite_oamDma v s
  case strobe => rintro rfl; exact memWrite_strobe v s
  case writeNothing =>
    rintro (h | rfl)
    · exact memWrite_unmapped h v s
    · exact memWrite_port2 v s

/-! ### The side effects of reads -/

/-- Reads of the registers other than PPUSTATUS and PPUDATA have no effect (R324, R329). -/
theorem ppuRegRead_noEffect {r : PpuReg} (hs : r ≠ .ppustatus) (hd : r ≠ .ppudata) (cfg : Params) (c : Cart) (p : Ppu) :
    (ppuRegRead cfg c p r).2 = (p, c) := by
  cases r with
  | ppustatus => exact absurd rfl hs
  | ppudata => exact absurd rfl hd
  | _ => rfl

/-- A PPUDATA read replaces the buffer and moves `v`, whatever the address (R327). -/
theorem Ppu.readData_ppu (cfg : Params) (c : Cart) (p : Ppu) :
    ∃ b, (p.readData cfg c).2.1 = { p with readBuffer := b, v := p.nextV } := by
  unfold Ppu.readData
  dsimp only
  split <;> exact ⟨_, rfl⟩

/-- The register of an index stands at that index only. -/
theorem ppuRegisters_injective {i j : Nat} {r : PpuReg} (hi : ppuRegisters[i]? = some r)
    (hj : ppuRegisters[j]? = some r) : i = j :=
  (List.getElem?_inj (List.getElem?_eq_some_iff.1 hi).1 (by decide)).1 (hi.trans hj.symm)

/-- A controller read moves the index only, where the strobe is 0 and bits are left (R353). -/
theorem Controller.read_next (c : Controller) :
    c.read.2 = { c with index := if c.strobe = false ∧ c.index < 8 then c.index + 1 else c.index } := by
  obtain ⟨buttons, shift, index, strobe⟩ := c
  cases strobe
  · by_cases h : index < 8 <;> simp [Controller.read, h]
  · rfl

/-- The read of an address with no side effect (R80). -/
theorem memRead_noEffect {a : Word} {s : State} (hstatus : ¬ isPpuAddress 2 a) (hdata : ¬ isPpuAddress 7 a)
    (h1 : a ≠ 0x4016) (h2 : a ≠ 0x4017) (hcart : a.toNat < 0x4020 ∨ s.plainCart) : (memRead a s).2 = s := by
  rcases busAddress_cases a with h | ⟨i, r, h, hr⟩ | rfl | h | h | h | h
  · exact memRead_plain (.inl h)
  · have status : r ≠ .ppustatus := by
      rintro rfl
      exact hstatus (ppuRegisters_injective hr (j := 2) rfl ▸ h)
    have data : r ≠ .ppudata := by
      rintro rfl
      exact hdata (ppuRegisters_injective hr (j := 7) rfl ▸ h)
    rw [memRead_ppu h hr, ppuRegRead_noEffect status data]
  · rw [memRead_oamDma]
  · exact absurd h h1
  · exact absurd h h2
  · rw [memRead_unmapped h]
  · exact memRead_plain (.inr ⟨h, hcart.resolve_left (by omega)⟩)

/-- Settles O36: what a read may change is `memRead_effects`; each listed address has its own effect, and no other
address has one. -/
theorem busReadSideEffects : Obligations.BusReadSideEffects := by
  intro a s
  have effects := memRead_effects a s
  refine ⟨effects, ?status, ?data, ?port1, ?port2, ?cart, effects.cart, memRead_noEffect⟩
  case status => intro h; rw [memRead_ppu h (r := .ppustatus) rfl]; rfl
  case data =>
    intro h
    have hread := memRead_ppu h (r := .ppudata) rfl s
    obtain ⟨b, hb⟩ := Ppu.readData_ppu s.params s.cart s.ppu
    have hcart : s.cart.withOwn (memRead a s).2.cart.own = (memRead a s).2.cart := effects.cartRead.symm
    refine ⟨b, ?_⟩
    rw [hcart, hread, ← hb]
    rfl
  case port1 => rintro rfl; rw [memRead_port1, Controller.read_next]
  case port2 => rintro rfl; rw [memRead_port2, Controller.read_next]
  case cart =>
    intro h
    rw [memRead_cart h, ← Cart.readPrg_read]

end Sys2Proof.Machine
end

section
/-! PROOFS. What an instruction leaves unchanged in memory: one that stores nothing keeps all of it, a store or a memory
read-modify-write all but one plain byte (20_memory.md R67, R68, R80). -/

namespace Sys2Proof.Machine

/-! ### Instructions that store nothing -/

/-- From `s` to `t` a new CPU, and beside it what reads may change. -/
def ReadsAndCpu (s t : State) : Prop := OnlyReadEffects { s with cpu := t.cpu } t

theorem OnlyReadEffects.withCpu {s u : State} (h : OnlyReadEffects s u) (c : Cpu) : ReadsAndCpu s { u with cpu := c } := by
  unfold OnlyReadEffects at h
  exact congrArg (fun v : State => { v with cpu := c }) h

theorem readsAndCpu_cpu (s : State) (c : Cpu) : ReadsAndCpu s { s with cpu := c } := (OnlyReadEffects.refl s).withCpu c

/-- A read instruction whose operation changes the CPU only. -/
theorem readOp_readsAndCpu {act : Byte → State → State} (h : ∀ m t, ∃ c, act m t = { t with cpu := c }) (src : Source)
    (base : Nat) (s : State) : ReadsAndCpu s (readOp act src base s) := by
  obtain ⟨c, hc⟩ := h (loadOperand src s).value (loadOperand src s).state
  rw [readOp, hc]
  exact (loadOperand_state src s).withCpu _

theorem branchOp_readsAndCpu (f : Flag) (wanted : Bool) (d : Byte) (s : State) :
    ReadsAndCpu s (branchOp f wanted d s) := by
  unfold branchOp
  split <;> exact readsAndCpu_cpu s _

/-- An indirect jump reads its pointer from the bus (R114, R210). -/
theorem jmpInd_readsAndCpu (d16 : Word) (s : State) :
    ReadsAndCpu s (((memRead16PW d16 s).2.setPC (memRead16PW d16 s).1).addCycles 5) :=
  ((memRead_effects _ s).trans (memRead_effects _ _)).withCpu _

/-- An instruction outside the rule's list of those that store, or an accumulator shift, stores nothing. -/
theorem exec_readsAndCpu {i : Instr} {s t : State}
    (hi : i.mnemonic ∉ [.sta, .stx, .sty, .pha, .php, .jsr, .brk, .inc, .dec, .asl, .lsr, .rol, .ror] ∨
      i ∈ [.aslAcc, .lsrAcc, .rolAcc, .rorAcc]) (h : exec i s = .next t) : ReadsAndCpu s t := by
  cases i <;> obtain rfl := Host.Outcome.next.inj h
  case ldaImm | ldaZp | ldaZpx | ldaAbs | ldaAbx | ldaAby | ldaIzx | ldaIzy | ldxImm | ldxZp | ldxZpy | ldxAbs | ldxAby
      | ldyImm | ldyZp | ldyZpx | ldyAbs | ldyAbx | adcImm | adcZp | adcZpx | adcAbs | adcAbx | adcAby | adcIzx | adcIzy
      | sbcImm | sbcZp | sbcZpx | sbcAbs | sbcAbx | sbcAby | sbcIzx | sbcIzy | cmpImm | cmpZp | cmpZpx | cmpAbs | cmpAbx
      | cmpAby | cmpIzx | cmpIzy | cpxImm | cpxZp | cpxAbs | cpyImm | cpyZp | cpyAbs | andImm | andZp | andZpx | andAbs
      | andAbx | andAby | andIzx | andIzy | oraImm | oraZp | oraZpx | oraAbs | oraAbx | oraAby | oraIzx | oraIzy | eorImm
      | eorZp | eorZpx | eorAbs | eorAbx | eorAby | eorIzx | eorIzy | bitZp | bitAbs =>
    exact readOp_readsAndCpu (fun _ _ => ⟨_, rfl⟩) _ _ s
  case tax | tay | txa | tya | tsx | txs | inx | iny | dex | dey | clc | sec | cli | sei | clv | cld | sed | nop | jmpAbs
      | aslAcc | lsrAcc | rolAcc | rorAcc =>
    exact readsAndCpu_cpu s _
  case bcc | bcs | beq | bne | bmi | bpl | bvc | bvs => exact branchOp_readsAndCpu _ _ _ s
  case jmpInd => exact jmpInd_readsAndCpu _ s
  case pla => rw [pull_eq]; exact readsAndCpu_cpu s _
  case plp => rw [pullStatus, pull_eq]; exact readsAndCpu_cpu s _
  case rts => rw [pullWord_eq]; exact readsAndCpu_cpu s _
  case rti => rw [returnFromInterrupt_eq]; exact readsAndCpu_cpu s _
  case staZp | staZpx | staAbs | staAbx | staAby | staIzx | staIzy | stxZp | stxZpy | stxAbs | styZp | styZpx | styAbs
      | pha | php | jsr | brk | incZp | incZpx | incAbs | incAbx | decZp | decZpx | decAbs | decAbx | aslZp | aslZpx
      | aslAbs | aslAbx | lsrZp | lsrZpx | lsrAbs | lsrAbx | rolZp | rolZpx | rolAbs | rolAbx | rorZp | rorZpx | rorAbs
      | rorAbx =>
    exact absurd hi (by simp [Instr.mnemonic])

/-- The registers that only a store writes are no effect of a read (R80). -/
theorem OnlyReadEffects.writeOnlyRegisters {s t : State} (h : OnlyReadEffects s t) :
    t.ppu.ctrl = s.ppu.ctrl ∧ t.ppu.mask = s.ppu.mask ∧ t.ppu.t = s.ppu.t ∧ t.ppu.x = s.ppu.x ∧
    t.ppu.oamAddr = s.ppu.oamAddr ∧ t.ppu.nmiRequest = s.ppu.nmiRequest ∧
    t.pad1.shift = s.pad1.shift ∧ t.pad2.shift = s.pad2.shift ∧
    t.pad1.strobe = s.pad1.strobe ∧ t.pad2.strobe = s.pad2.strobe := by
  rw [h]
  exact ⟨rfl, rfl, rfl, rfl, rfl, rfl, rfl, rfl, rfl, rfl⟩

/-- Settles O32: such an instruction makes reads and a new CPU, and the CPU is no memory. -/
theorem nonStoringInstructionsKeepMemory : Obligations.NonStoringInstructionsKeepMemory := by
  intro i s t hi h
  have reads : OnlyReadEffects { s with cpu := t.cpu } t := exec_readsAndCpu hi h
  refine ⟨fun a ha => ?_, reads.cartRead, reads.cart, reads.ram, reads.nt, reads.pal, reads.oam,
    reads.writeOnlyRegisters⟩
  exact (reads.peek ha).trans (peek_withCpu a s t.cpu)

/-! ### What a bus write leaves of plain memory -/

theorem PlainCart.readPrg_writeChr (c : PlainCart) (n : Nat) (v : Byte) (a : Word) :
    (c.writeChr n v).readPrg a = c.readPrg a := by
  unfold PlainCart.writeChr
  split <;> rfl

/-- A PRG write reaches the byte of its own address at most (R362). -/
theorem PlainCart.readPrg_writePrg_other (c : PlainCart) {a b : Word} (hab : a ≠ b) (v : Byte) :
    (c.writePrg b v).readPrg a = c.readPrg a := by
  have apart : a.toNat ≠ b.toNat := fun e => hab (BitVec.eq_of_toNat_eq e)
  unfold PlainCart.writePrg PlainCart.prgRamWrite
  split
  · cases hram : c.prgRam with
    | none => rfl
    | some m =>
      simp only [PlainCart.readPrg, hram]
      split
      · rfl
      · split
        · exact Memory.read_write_other _ _ (by omega)
        · rfl
  · rfl

/-- All a PPU register write can do to the cartridge: PPUDATA writes a CHR byte (R328). -/
theorem ppuRegWrite_cart (cfg : Params) (c : Cart) (p : Ppu) (r : PpuReg) (v : Byte) :
    (ppuRegWrite cfg c p r v).2 = c ∨ ∃ n, (ppuRegWrite cfg c p r v).2 = c.writeChr n v := by
  cases r with
  | ppudata =>
    simp only [ppuRegWrite, Ppu.writeData, ppuWrite]
    split
    · exact .inr ⟨_, rfl⟩
    · split <;> exact .inl rfl
  | _ => exact .inl rfl

theorem ppuRegWrite_readPrg (cfg : Params) (c : PlainCart) (p : Ppu) (r : PpuReg) (v : Byte) (a : Word) :
    ((ppuRegWrite cfg (.plain c) p r v).2.readPrg a).1 = c.readPrg a := by
  rcases ppuRegWrite_cart cfg (.plain c) p r v with h | ⟨n, h⟩ <;> rw [h]
  · rfl
  · exact c.readPrg_writeChr n v a

/-- An OAM DMA reads the bus and writes OAM (R330). -/
theorem oamDma_ram (page : Byte) (s : State) : (oamDma page s).ram = s.ram :=
  List.foldlRecOn (List.range 256) (dmaByte page) (motive := fun t => t.ram = s.ram) rfl
    fun t ht _ _ => (memRead_ram_kept _ t).trans ht

/-- A write outside RAM's addresses leaves RAM alone. -/
theorem memWrite_ram_kept {b : Word} (hb : 0x2000 ≤ b.toNat) (v : Byte) (s : State) : (memWrite b v s).ram = s.ram := by
  rcases busAddress_cases b with h | ⟨i, r, h, hr⟩ | rfl | rfl | rfl | h | h
  · omega
  · rw [memWrite_ppu h hr]
  · rw [memWrite_oamDma, oamDma_ram]
  · rw [memWrite_strobe]
  · rw [memWrite_port2]
  · rw [memWrite_unmapped h]
  · rw [memWrite_cart h]

/-- A write leaves every other PRG byte of the no-bank-switching cartridge. -/
theorem memWrite_readPrg_other {a b : Word} (hab : a ≠ b) (v : Byte) {s : State} (hp : s.plainCart) :
    ((memWrite b v s).cart.readPrg a).1 = (s.cart.readPrg a).1 := by
  obtain ⟨c, hc⟩ := Cart.mapper_plain hp
  rcases busAddress_cases b with h | ⟨i, r, h, hr⟩ | rfl | rfl | rfl | h | h
  · rw [memWrite_ram h]
  · rw [memWrite_ppu h hr, hc]
    exact ppuRegWrite_readPrg s.params c s.ppu r v a
  · rw [memWrite_oamDma, (oamDma_cartRead v s).of_plain hp]
  · rw [memWrite_strobe]
  · rw [memWrite_port2]
  · rw [memWrite_unmapped h]
  · rw [memWrite_cart h, hc]
    exact c.readPrg_writePrg_other hab v

/-- A bus write changes no plain byte but the one at its address, seen through a RAM mirror too (R67, R68). -/
theorem peek_memWrite_other {a b : Word} (v : Byte) {s : State} (ha : plainMemory a s) (hab : ¬ sameByte a b) :
    peek a (memWrite b v s) = peek a s := by
  obtain ⟨hne, hmirror⟩ := not_or.1 hab
  rcases ha with ha | ⟨ha, hp⟩
  · rw [peek, peek, memRead_ram ha, memRead_ram ha]
    by_cases hb : b.toNat < 0x2000
    · rw [memWrite_ram hb]
      exact Memory.read_write_other _ _ fun e => hmirror ⟨ha, hb, e⟩
    · rw [memWrite_ram_kept (by omega)]
  · rw [peek, peek, memRead_cart ha, memRead_cart ha]
    exact memWrite_readPrg_other hne v hp

/-! ### Stores and read-modify-writes: each form, by its rule's list, runs its operation at its mode or place -/

theorem exec_sta (d : Byte) (d16 : Word) (s : State) :
    ∀ f ∈ Forms.sta d d16, exec f.instr s = .next (staOp f.mode f.base s) := by
  simp only [Forms.sta, List.forall_mem_cons]
  exact ⟨rfl, rfl, rfl, rfl, rfl, rfl, rfl, List.forall_mem_nil _⟩

theorem exec_stx (d : Byte) (d16 : Word) (s : State) :
    ∀ f ∈ Forms.stx d d16, exec f.instr s = .next (stxOp f.mode f.base s) := by
  simp only [Forms.stx, List.forall_mem_cons]
  exact ⟨rfl, rfl, rfl, List.forall_mem_nil _⟩

theorem exec_sty (d : Byte) (d16 : Word) (s : State) :
    ∀ f ∈ Forms.sty d d16, exec f.instr s = .next (styOp f.mode f.base s) := by
  simp only [Forms.sty, List.forall_mem_cons]
  exact ⟨rfl, rfl, rfl, List.forall_mem_nil _⟩

theorem exec_inc (d : Byte) (d16 : Word) (s : State) :
    ∀ f ∈ Forms.inc d d16, exec f.instr s = .next (incOp f.place f.base s) := by
  simp only [Forms.inc, List.forall_mem_cons]
  exact ⟨rfl, rfl, rfl, rfl, List.forall_mem_nil _⟩

theorem exec_dec (d : Byte) (d16 : Word) (s : State) :
    ∀ f ∈ Forms.dec d d16, exec f.instr s = .next (decOp f.place f.base s) := by
  simp only [Forms.dec, List.forall_mem_cons]
  exact ⟨rfl, rfl, rfl, rfl, List.forall_mem_nil _⟩

theorem exec_asl (d : Byte) (d16 : Word) (s : State) :
    ∀ f ∈ Forms.asl d d16, exec f.instr s = .next (aslOp f.place f.base s) := by
  simp only [Forms.asl, List.forall_mem_cons]
  exact ⟨rfl, rfl, rfl, rfl, rfl, List.forall_mem_nil _⟩

theorem exec_lsr (d : Byte) (d16 : Word) (s : State) :
    ∀ f ∈ Forms.lsr d d16, exec f.instr s = .next (lsrOp f.place f.base s) := by
  simp only [Forms.lsr, List.forall_mem_cons]
  exact ⟨rfl, rfl, rfl, rfl, rfl, List.forall_mem_nil _⟩

theorem exec_rol (d : Byte) (d16 : Word) (s : State) :
    ∀ f ∈ Forms.rol d d16, exec f.instr s = .next (rolOp f.place f.base s) := by
  simp only [Forms.rol, List.forall_mem_cons]
  exact ⟨rfl, rfl, rfl, rfl, rfl, List.forall_mem_nil _⟩

theorem exec_ror (d : Byte) (d16 : Word) (s : State) :
    ∀ f ∈ Forms.ror d d16, exec f.instr s = .next (rorOp f.place f.base s) := by
  simp only [Forms.ror, List.forall_mem_cons]
  exact ⟨rfl, rfl, rfl, rfl, rfl, List.forall_mem_nil _⟩

/-- Every form of STA, STX and STY is a store at its mode (R143 to R145). -/
theorem exec_storeForm {d : Byte} {d16 : Word} {f : StoreForm}
    (hf : f ∈ Forms.sta d d16 ++ Forms.stx d d16 ++ Forms.sty d d16) (s : State) :
    ∃ v, exec f.instr s = .next (storeOp v f.mode f.base s) := by
  simp only [List.mem_append] at hf
  obtain (hf | hf) | hf := hf
  · exact ⟨s.cpu.a, exec_sta d d16 s f hf⟩
  · exact ⟨s.cpu.x, exec_stx d d16 s f hf⟩
  · exact ⟨s.cpu.y, exec_sty d d16 s f hf⟩

/-- Every form of INC, DEC and the shifts is a read-modify-write at its place (R176, R179, R194 to R197). -/
theorem exec_modifyForm {d : Byte} {d16 : Word} {f : ModifyForm}
    (hf : f ∈ Forms.inc d d16 ++ Forms.dec d d16 ++ Forms.asl d d16 ++ Forms.lsr d d16 ++ Forms.rol d d16 ++
      Forms.ror d d16) (s : State) :
    ∃ g, exec f.instr s = .next (modifyOp g f.place f.base s) := by
  simp only [List.mem_append] at hf
  obtain ((((hf | hf) | hf) | hf) | hf) | hf := hf
  · exact ⟨incByte, exec_inc d d16 s f hf⟩
  · exact ⟨decByte, exec_dec d d16 s f hf⟩
  · exact ⟨aslByte, exec_asl d d16 s f hf⟩
  · exact ⟨lsrByte, exec_lsr d d16 s f hf⟩
  · exact ⟨rolByte, exec_rol d d16 s f hf⟩
  · exact ⟨rorByte, exec_ror d d16 s f hf⟩

theorem peek_storeOp_other {a : Word} {m : MemMode} {s : State} (ha : plainMemory a s)
    (hab : ¬ sameByte a (effAddr m s).addr) (v : Byte) (base : Nat) : peek a (storeOp v m base s) = peek a s := by
  rw [storeOp_eq, State.addCycles, peek_withCpu]
  exact peek_memWrite_other v ha hab

theorem peek_modifyOp_other {a : Word} {m : MemMode} {s : State} (ha : plainMemory a s)
    (hab : ¬ sameByte a (effAddr m s).addr) (g : Byte → Byte → Byte × Byte) (base : Nat) :
    peek a (modifyOp g (.mem m) base s) = peek a s := by
  have read := memRead_effects (effAddr m s).addr s
  rw [modifyOp_mem]
  dsimp only
  rw [peek_withCpu, peek_memWrite_other _ (read.plainMemory.2 ha) hab, read.peek ha]

/-- Settles O33: each form is a store or a read-modify-write at its effective address, whose read changes no plain
byte and whose one bus write no other. -/
theorem storingInstructionsChangeOneByte : Obligations.StoringInstructionsChangeOneByte := by
  rintro d d16 s t i m (⟨f, hf, rfl, rfl⟩ | ⟨f, hf, rfl, hm⟩) ht a ha hab
  · obtain ⟨v, hv⟩ := exec_storeForm hf s
    obtain rfl := Host.Outcome.next.inj (hv.symm.trans ht)
    exact peek_storeOp_other ha hab v f.base
  · obtain ⟨g, hg⟩ := exec_modifyForm hf s
    obtain rfl := Host.Outcome.next.inj (hg.symm.trans ht)
    rw [hm]
    exact peek_modifyOp_other ha hab g f.base

end Sys2Proof.Machine
end

section
/-! PROOFS. The decoder and the encoder agree (30_encoding.md R100, R101, R121, R128, R136). -/

namespace Sys2Proof.Laws

open Machine (w16 hi lo hi_w16 lo_w16)

/-- A template builds an instruction from the operand bytes of its format, low byte first (R101). -/
inductive Builds : Template → Instr → List Byte → Prop
  | f1 (i : Instr) : Builds (.f1 i) i []
  | f2 (build : Byte → Instr) (d : Byte) : Builds (.f2 build) (build d) [d]
  | f3 (build : Word → Instr) (l h : Byte) : Builds (.f3 build) (build (w16 h l)) [l, h]

/-- What an entry of the opcode map builds, the encoder takes apart into the same bytes. -/
theorem Builds.encode {op : Byte} {t : Template} {i : Instr} {ops : List Byte} (hb : Builds t i ops)
    (ht : opcodeMap op = some t) : encode i = op :: ops := by
  have entry := opcodeMap_encodes op t ht
  cases hb with
  | f1 => exact entry
  | f2 build d => exact entry d
  | f3 build l h => rw [entry (w16 h l), lo_w16, hi_w16]

/-- The decoder answers exactly what an entry of the opcode map builds from the bytes after its opcode byte. -/
theorem decode_ok_iff {bs rest : List Byte} {i : Instr} :
    decode bs = .ok (i, rest) ↔
      ∃ op t ops, opcodeMap op = some t ∧ Builds t i ops ∧ bs = op :: (ops ++ rest) := by
  constructor
  · intro h
    cases bs with
    | nil => cases h
    | cons op tail =>
      simp only [decode] at h
      split at h
      · cases h
      case h_2 ht => cases h; exact ⟨op, _, [], ht, .f1 i, rfl⟩
      case h_3 build ht =>
        split at h
        case h_1 d _ => cases h; exact ⟨op, _, [d], ht, .f2 build d, rfl⟩
        · cases h
      case h_4 build ht =>
        split at h
        case h_1 low high _ => cases h; exact ⟨op, _, [low, high], ht, .f3 build low high, rfl⟩
        · cases h
        · cases h
  · rintro ⟨op, t, ops, ht, hb, rfl⟩
    cases hb <;> simp [decode, ht]

/-- Every instruction decodes from its own bytes: one law for each constructor. -/
theorem decode_encode : ∀ i, RoundTrip.Statement i := by
  open RoundTrip in
  exact Instr.rec (motive := RoundTrip.Statement)
    ldaImm ldaZp ldaZpx ldaAbs ldaAbx ldaAby ldaIzx ldaIzy ldxImm ldxZp ldxZpy ldxAbs ldxAby ldyImm ldyZp
    ldyZpx ldyAbs ldyAbx staZp staZpx staAbs staAbx staAby staIzx staIzy stxZp stxZpy stxAbs styZp styZpx
    styAbs tax tay txa tya tsx txs pha php pla plp adcImm adcZp adcZpx adcAbs adcAbx adcAby adcIzx adcIzy
    sbcImm sbcZp sbcZpx sbcAbs sbcAbx sbcAby sbcIzx sbcIzy cmpImm cmpZp cmpZpx cmpAbs cmpAbx cmpAby cmpIzx
    cmpIzy cpxImm cpxZp cpxAbs cpyImm cpyZp cpyAbs incZp incZpx incAbs incAbx inx iny decZp decZpx decAbs
    decAbx dex dey andImm andZp andZpx andAbs andAbx andAby andIzx andIzy oraImm oraZp oraZpx oraAbs oraAbx
    oraAby oraIzx oraIzy eorImm eorZp eorZpx eorAbs eorAbx eorAby eorIzx eorIzy bitZp bitAbs aslAcc aslZp
    aslZpx aslAbs aslAbx lsrAcc lsrZp lsrZpx lsrAbs lsrAbx rolAcc rolZp rolZpx rolAbs rolAbx rorAcc rorZp
    rorZpx rorAbs rorAbx jmpAbs jmpInd jsr rts bcc bcs beq bne bmi bpl bvc bvs clc sec cli sei clv cld sed nop
    brk rti

/-- The bytes of every instruction are well formed, and as many as its length: one law for each constructor. -/
theorem encode_wellFormed : ∀ i, OpcodeByte.Statement i := by
  open OpcodeByte in
  exact Instr.rec (motive := OpcodeByte.Statement)
    ldaImm ldaZp ldaZpx ldaAbs ldaAbx ldaAby ldaIzx ldaIzy ldxImm ldxZp ldxZpy ldxAbs ldxAby ldyImm ldyZp
    ldyZpx ldyAbs ldyAbx staZp staZpx staAbs staAbx staAby staIzx staIzy stxZp stxZpy stxAbs styZp styZpx
    styAbs tax tay txa tya tsx txs pha php pla plp adcImm adcZp adcZpx adcAbs adcAbx adcAby adcIzx adcIzy
    sbcImm sbcZp sbcZpx sbcAbs sbcAbx sbcAby sbcIzx sbcIzy cmpImm cmpZp cmpZpx cmpAbs cmpAbx cmpAby cmpIzx
    cmpIzy cpxImm cpxZp cpxAbs cpyImm cpyZp cpyAbs incZp incZpx incAbs incAbx inx iny decZp decZpx decAbs
    decAbx dex dey andImm andZp andZpx andAbs andAbx andAby andIzx andIzy oraImm oraZp oraZpx oraAbs oraAbx
    oraAby oraIzx oraIzy eorImm eorZp eorZpx eorAbs eorAbx eorAby eorIzx eorIzy bitZp bitAbs aslAcc aslZp
    aslZpx aslAbs aslAbx lsrAcc lsrZp lsrZpx lsrAbs lsrAbx rolAcc rolZp rolZpx rolAbs rolAbx rorAcc rorZp
    rorZpx rorAbs rorAbx jmpAbs jmpInd jsr rts bcc bcs beq bne bmi bpl bvc bvs clc sec cli sei clv cld sed nop
    brk rti

/-- Settles O1: what the decoder builds encodes back to the bytes it took (`Builds.encode`), and every instruction
decodes from its own bytes. -/
theorem decodeInvertsEncode : Obligations.DecodeInvertsEncode := by
  intro bs rest i
  constructor
  · intro h
    obtain ⟨op, t, ops, ht, hb, rfl⟩ := decode_ok_iff.1 h
    rw [hb.encode ht]
    rfl
  · rintro rfl
    exact decode_encode i rest

/-- Settles O3: each word is the encoding of its instruction, with what follows it (`decodeInvertsEncode`). -/
theorem specEncodingsDecode : Obligations.SpecEncodingsDecode := by
  have decodes := fun bs rest i => (decodeInvertsEncode bs rest i).2
  exact ⟨decodes _ _ _ rfl, decodes _ _ _ rfl, decodes _ _ _ rfl, decodes _ _ _ rfl, decodes _ _ _ rfl,
    decodes _ _ _ rfl, decodes _ _ _ rfl, decodes _ _ _ rfl, decodes _ _ _ rfl, decodes _ _ _ rfl, decodes _ _ _ rfl,
    decodes _ _ _ rfl, decodes _ _ _ rfl, decodes _ _ _ rfl, decodes _ _ _ rfl, rfl, rfl⟩

/-- Every instruction stands in the opcode map, under the first byte of its encoding. -/
theorem encode_entry (i : Instr) : ∃ op t ops, opcodeMap op = some t ∧ Builds t i ops ∧ encode i = op :: ops := by
  obtain ⟨op, t, ops, ht, hb, -⟩ := decode_ok_iff.1 (decode_encode i [])
  exact ⟨op, t, ops, ht, hb, hb.encode ht⟩

/-- The opcode map has no entry for the listed illegal bytes, and for no other (R121, R128). -/
theorem opcodeMap_eq_none {op : Byte} : opcodeMap op = none ↔ op.toNat ∈ illegalOpcodes := by
  rw [← Option.isNone_iff_eq_none, opcodeMap_isNone, decide_eq_true_iff]

/-- Only a byte without an entry is refused as illegal. -/
theorem decode_illegal_iff {op : Byte} {rest : List Byte} :
    decode (op :: rest) = .error (.illegalOpcode op) ↔ opcodeMap op = none := by
  simp only [decode]
  split
  case h_1 ht | h_2 ht => simp [ht]
  case h_3 ht | h_4 ht => split <;> simp [ht]

/-- The length an opcode byte fixes (R100) is that of the bytes its entry builds from. -/
theorem Builds.length {op : Byte} {t : Template} {i : Instr} {ops : List Byte} (hb : Builds t i ops)
    (ht : opcodeMap op = some t) : ops.length + 1 = opcodeLength op := by
  have wf := (encode_wellFormed i).1
  rw [hb.encode ht, wellFormedBytes, Bool.and_eq_true, beq_iff_eq] at wf
  exact wf.2

/-- As many bytes as an opcode byte fixes are the operand of an instruction of its entry (R129: every value is legal). -/
theorem builds_of_length {op : Byte} {t : Template} {ops : List Byte} (ht : opcodeMap op = some t)
    (h : ops.length + 1 = opcodeLength op) : ∃ i, Builds t i ops := by
  cases t with
  | f1 i =>
    have : ops.length + 1 = 1 := h.trans ((Builds.f1 i).length ht).symm
    obtain rfl := List.length_eq_zero_iff.1 (Nat.succ.inj this)
    exact ⟨i, .f1 i⟩
  | f2 build =>
    have : ops.length + 1 = 2 := h.trans ((Builds.f2 build 0).length ht).symm
    obtain ⟨d, rfl⟩ := List.length_eq_one_iff.1 (Nat.succ.inj this)
    exact ⟨build d, .f2 build d⟩
  | f3 build =>
    have : ops.length + 1 = 3 := h.trans ((Builds.f3 build 0 0).length ht).symm
    obtain ⟨low, high, rfl⟩ := List.length_eq_two.1 (Nat.succ.inj this)
    exact ⟨build (w16 high low), .f3 build low high⟩

/-- The defined opcode bytes are those with an entry. -/
theorem opcodeDefined_iff {op : Byte} : opcodeDefined op = true ↔ ∃ t, opcodeMap op = some t := by
  rw [← Option.ne_none_iff_exists', ne_eq, opcodeMap_eq_none]
  simp [opcodeDefined]

/-- The well-formed byte sequences are those that are exactly one instruction (R100, R128, R129). -/
theorem wellFormedBytes_iff {bs : List Byte} : wellFormedBytes bs = true ↔ ∃ i, decode bs = .ok (i, []) := by
  constructor
  · intro h
    cases bs with
    | nil => cases h
    | cons op ops =>
      rw [wellFormedBytes, Bool.and_eq_true, beq_iff_eq, opcodeDefined_iff] at h
      obtain ⟨⟨t, ht⟩, hlen⟩ := h
      obtain ⟨i, hb⟩ := builds_of_length ht hlen
      exact ⟨i, decode_ok_iff.2 ⟨op, t, ops, ht, hb, by rw [List.append_nil]⟩⟩
  · rintro ⟨i, h⟩
    rw [(decodeInvertsEncode _ _ _).1 h, List.append_nil]
    exact (encode_wellFormed i).1

end Sys2Proof.Laws
end

section
/-! PROOFS. Fetch: the bytes of one instruction in ascending order, or one illegal byte (30_encoding.md R102, R128;
60_exceptions.md R252). -/

namespace Sys2Proof.Machine

open Laws

/-- Fetching a list of bytes begins with one fetch. -/
theorem fetches_cons {s u : State} {b : Byte} {bs : List Byte} :
    Fetches s (b :: bs) u ↔ (fetchByte s).1 = b ∧ Fetches (fetchByte s).2 bs u := Iff.rfl

/-- PC moves by one for each byte fetched (R102), modulo 65,536. -/
theorem Fetches.pc {s u : State} {bs : List Byte} (h : Fetches s bs u) :
    u.cpu.pc = s.cpu.pc + BitVec.ofNat 16 bs.length := by
  induction bs generalizing s with
  | nil =>
    obtain rfl : u = s := h
    simp
  | cons b bs ih =>
    obtain ⟨-, h⟩ := fetches_cons.1 h
    rw [ih h, fetchByte, State.setPC_cpu_pc, List.length_cons, Nat.add_comm, BitVec.ofNat_add, ← BitVec.add_assoc]
    rfl

/-- A fetch answers what the entry of the byte at PC builds from the bytes fetched after it. -/
theorem fetch_instr_iff {s u : State} {i : Instr} :
    fetch s = .instr i u ↔
      ∃ t ops, opcodeMap (fetchByte s).1 = some t ∧ Builds t i ops ∧ Fetches (fetchByte s).2 ops u := by
  constructor
  · intro h
    unfold fetch at h
    dsimp only at h
    split at h
    · cases h
    case h_2 ht => cases h; exact ⟨_, _, ht, .f1 i, rfl⟩
    case h_3 build ht => cases h; exact ⟨_, _, ht, .f2 build _, rfl, rfl⟩
    case h_4 build ht => cases h; exact ⟨_, _, ht, .f3 build _ _, rfl, rfl, rfl⟩
  · rintro ⟨t, ops, ht, hb, hu⟩
    cases hb with
    | f1 =>
      obtain rfl : u = _ := hu
      simp only [fetch, ht]
    | f2 build d =>
      obtain ⟨rfl, rfl⟩ := hu
      simp only [fetch, ht]
      rfl
    | f3 build l h =>
      obtain ⟨rfl, rfl, rfl⟩ := hu
      simp only [fetch, ht]
      rfl

/-- A fetch reads the encoding of the instruction it answers (R102). -/
theorem fetch_instr_iff_fetches {s u : State} {i : Instr} : fetch s = .instr i u ↔ Fetches s (encode i) u := by
  constructor
  · intro h
    obtain ⟨t, ops, ht, hb, hu⟩ := fetch_instr_iff.1 h
    rw [hb.encode ht]
    exact fetches_cons.2 ⟨rfl, hu⟩
  · intro h
    obtain ⟨op, t, ops, ht, hb, he⟩ := encode_entry i
    rw [he] at h
    obtain ⟨rfl, hu⟩ := fetches_cons.1 h
    exact fetch_instr_iff.2 ⟨t, ops, ht, hb, hu⟩

/-- A fetch is illegal where the byte at PC is a listed one, after that one read (R128). -/
theorem fetch_illegal_iff {s u : State} {op : Byte} :
    fetch s = .illegal op u ↔ op.toNat ∈ illegalOpcodes ∧ memRead s.cpu.pc s = (op, u) := by
  rw [← opcodeMap_eq_none]
  constructor
  · intro h
    unfold fetch at h
    dsimp only at h
    split at h <;> cases h
    exact ⟨‹_›, rfl⟩
  · rintro ⟨hop, hread⟩
    have hbyte : (fetchByte s).1 = op := congrArg Prod.fst hread
    simp only [fetch, hbyte, hop, hread]

/-- No instruction of the table faults (R253). -/
theorem exec_next (i : Instr) (s : State) : ∃ t, exec i s = .next t := by
  cases i <;> exact ⟨_, rfl⟩

/-- An illegal fetch is the fault, with the stuck state (R252). -/
theorem runInstruction_of_illegal {s u : State} {op : Byte} (h : fetch s = .illegal op u) :
    runInstruction s = .fault (.illegalOpcode s.cpu.pc op (halt s.cpu.pc op u)) := by
  simp only [runInstruction, h]

/-- Running the instruction at PC faults only where its fetch is illegal. -/
theorem runInstruction_illegal_iff {s : State} {op : Byte} :
    (∃ stuck, runInstruction s = .fault (.illegalOpcode s.cpu.pc op stuck)) ↔ ∃ u, fetch s = .illegal op u := by
  constructor
  · rintro ⟨stuck, h⟩
    cases hf : fetch s with
    | instr i t =>
      obtain ⟨t', ht'⟩ := exec_next i t
      simp only [runInstruction, hf, ht'] at h
      cases h
    | illegal op' u =>
      rw [runInstruction_of_illegal hf] at h
      cases h
      exact ⟨u, rfl⟩
  · rintro ⟨u, hu⟩
    exact ⟨_, runInstruction_of_illegal hu⟩

/-- Settles O2: the opcode map has no entry for exactly the listed bytes, and decoding, fetching and running an
instruction ask the map. -/
theorem illegalOpcodesAreTheListed105 : Obligations.IllegalOpcodesAreTheListed105 := by
  refine ⟨rfl, rfl, fun op rest s => ⟨wellFormedBytes_iff, decode_illegal_iff.trans opcodeMap_eq_none, ?_⟩⟩
  intro hpeek
  rw [runInstruction_illegal_iff]
  constructor
  · rintro ⟨u, hu⟩
    exact (fetch_illegal_iff.1 hu).1
  · intro hop
    exact ⟨_, fetch_illegal_iff.2 ⟨hop, Prod.ext hpeek rfl⟩⟩

/-- Settles O4: an entry builds from the bytes fetched after its opcode byte, and encodes back to them. -/
theorem fetchReadsOpcodeThenOperands : Obligations.FetchReadsOpcodeThenOperands := by
  intro s
  refine ⟨fun i u => fetch_instr_iff_fetches, fun i u h => ?pc, fun op u => fetch_illegal_iff, fun op u h => ?illegal⟩
  case pc =>
    rw [(fetch_instr_iff_fetches.1 h).pc, (encode_wellFormed i).2]
  case illegal =>
    obtain ⟨-, hread⟩ := fetch_illegal_iff.1 h
    have hcpu : u.cpu = s.cpu := by
      have := memRead_cpu s.cpu.pc s
      rwa [hread] at this
    exact ⟨congrArg Cpu.pc hcpu, _, runInstruction_of_illegal h, rfl⟩

end Sys2Proof.Machine
end

section
/-! PROOFS. The addressing modes by numbers, and the operand read (30_encoding.md R103, R107 to R116; 20_memory.md
R81). -/

namespace Sys2Proof.Machine

theorem pageDiffers_iff {a b : Word} : pageDiffers a b = true ↔ a.toNat / 256 ≠ b.toNat / 256 := by
  rw [pageDiffers, bne_iff_ne, ne_eq, ← BitVec.toNat_inj, toNat_hi, toNat_hi]

/-- An indexed zero-page address wraps inside page 0 (R109, R110, R115). -/
theorem toNat_zext16_add (d index : Byte) : (zext16 (d + index)).toNat = (d.toNat + index.toNat) % 256 := by
  rw [toNat_zext16, BitVec.toNat_add]

/-- An indexed address wraps at 65,536 (R112, R113, R116). -/
theorem indexed_addr (base : Word) (index : Byte) (s : State) :
    (indexed base index s).addr.toNat = (base.toNat + index.toNat) % 65536 := by
  rw [indexed, BitVec.toNat_add, toNat_zext16]

theorem indexed_crossed (base : Word) (index : Byte) (s : State) :
    (indexed base index s).crossed = true ↔ (indexed base index s).addr.toNat / 256 ≠ base.toNat / 256 :=
  pageDiffers_iff

/-- Settles O12: the zero-page sums are `toNat_zext16_add`, the absolute ones `indexed`. -/
theorem directAndIndexedAddressing : Obligations.DirectAndIndexedAddressing := by
  intro d d16 s
  refine ⟨rfl, toNat_zext16 d, toNat_zext16_add d s.cpu.x, toNat_zext16_add d s.cpu.y, rfl,
    indexed_addr d16 s.cpu.x s, indexed_addr d16 s.cpu.y s, ?direct, ?indexed⟩
  case direct =>
    simp only [List.forall_mem_cons]
    exact ⟨⟨rfl, rfl⟩, ⟨rfl, rfl⟩, ⟨rfl, rfl⟩, ⟨rfl, rfl⟩, List.forall_mem_nil _⟩
  case indexed =>
    simp only [List.forall_mem_cons]
    exact ⟨⟨indexed_crossed d16 s.cpu.x s, rfl⟩, ⟨indexed_crossed d16 s.cpu.y s, rfl⟩, List.forall_mem_nil _⟩

/-- A pointer in page 0 by numbers: its high byte lies at the next address modulo 256 (R115, R116). -/
theorem toNat_memRead16ZP (z : Byte) (s : State) :
    (memRead16ZP z s).1.toNat =
      (Memory.read s.ram z.toNat).toNat + 256 * (Memory.read s.ram ((z.toNat + 1) % 256)).toNat := by
  have next : (z + 1).toNat = (z.toNat + 1) % 256 := BitVec.toNat_add z 1
  rw [memRead16ZP_eq, toNat_w16, next]
  omega

/-- Settles O13: the pointer is `toNat_memRead16ZP`, before the index is added or after it. -/
theorem indirectAddressing : Obligations.IndirectAddressing := by
  intro d s
  refine ⟨⟨?izx, rfl, effAddr_state _ s⟩, ?izyAddr, ?izyCrossed, effAddr_state _ s⟩
  case izx =>
    have pointer := toNat_memRead16ZP (d + s.cpu.x) s
    rwa [BitVec.toNat_add] at pointer
  case izyAddr =>
    rw [← toNat_memRead16ZP]
    exact indexed_addr _ _ _
  case izyCrossed =>
    rw [← toNat_memRead16ZP]
    exact indexed_crossed _ _ _

/-- The operand read of a memory mode is one read of its effective address (R103). -/
theorem loadOperand_mem (m : MemMode) (s : State) :
    loadOperand (.mem m) s =
      ⟨peek (effAddr m s).addr s, (effAddr m s).crossed, (memRead (effAddr m s).addr s).2⟩ := by
  simp only [loadOperand, effAddr_state, peek]

/-- Settles O14: one read of the effective address, which changes nothing of plain memory. -/
theorem operandIsOneRead : Obligations.OperandIsOneRead := by
  intro src s
  refine ⟨loadOperand_state src s, ?_⟩
  rintro m rfl
  rw [loadOperand_mem]
  exact ⟨rfl, rfl, rfl, memRead_plain⟩

end Sys2Proof.Machine
end

section
/-! PROOFS. Loads, stores and register transfers: their encodings, and the whole state each leaves
(40_load_store_transfer.md R140 to R151). -/

namespace Sys2Proof.Machine

/-! ### The encodings, by each rule's list -/

theorem encode_lda (d : Byte) (d16 : Word) : ∀ f ∈ Forms.lda d d16, encode f.instr = f.bytes := by
  simp only [Forms.lda, List.forall_mem_cons]
  exact ⟨rfl, rfl, rfl, rfl, rfl, rfl, rfl, rfl, List.forall_mem_nil _⟩

theorem encode_ldx (d : Byte) (d16 : Word) : ∀ f ∈ Forms.ldx d d16, encode f.instr = f.bytes := by
  simp only [Forms.ldx, List.forall_mem_cons]
  exact ⟨rfl, rfl, rfl, rfl, rfl, List.forall_mem_nil _⟩

theorem encode_ldy (d : Byte) (d16 : Word) : ∀ f ∈ Forms.ldy d d16, encode f.instr = f.bytes := by
  simp only [Forms.ldy, List.forall_mem_cons]
  exact ⟨rfl, rfl, rfl, rfl, rfl, List.forall_mem_nil _⟩

theorem encode_sta (d : Byte) (d16 : Word) : ∀ f ∈ Forms.sta d d16, encode f.instr = f.bytes := by
  simp only [Forms.sta, List.forall_mem_cons]
  exact ⟨rfl, rfl, rfl, rfl, rfl, rfl, rfl, List.forall_mem_nil _⟩

theorem encode_stx (d : Byte) (d16 : Word) : ∀ f ∈ Forms.stx d d16, encode f.instr = f.bytes := by
  simp only [Forms.stx, List.forall_mem_cons]
  exact ⟨rfl, rfl, rfl, List.forall_mem_nil _⟩

theorem encode_sty (d : Byte) (d16 : Word) : ∀ f ∈ Forms.sty d d16, encode f.instr = f.bytes := by
  simp only [Forms.sty, List.forall_mem_cons]
  exact ⟨rfl, rfl, rfl, List.forall_mem_nil _⟩

/-! ### Loads: each form runs its operation at its source -/

theorem exec_lda (d : Byte) (d16 : Word) (s : State) :
    ∀ f ∈ Forms.lda d d16, exec f.instr s = .next (ldaOp f.source f.base s) := by
  simp only [Forms.lda, List.forall_mem_cons]
  exact ⟨rfl, rfl, rfl, rfl, rfl, rfl, rfl, rfl, List.forall_mem_nil _⟩

theorem exec_ldx (d : Byte) (d16 : Word) (s : State) :
    ∀ f ∈ Forms.ldx d d16, exec f.instr s = .next (ldxOp f.source f.base s) := by
  simp only [Forms.ldx, List.forall_mem_cons]
  exact ⟨rfl, rfl, rfl, rfl, rfl, List.forall_mem_nil _⟩

theorem exec_ldy (d : Byte) (d16 : Word) (s : State) :
    ∀ f ∈ Forms.ldy d d16, exec f.instr s = .next (ldyOp f.source f.base s) := by
  simp only [Forms.ldy, List.forall_mem_cons]
  exact ⟨rfl, rfl, rfl, rfl, rfl, List.forall_mem_nil _⟩

/-- A load writes the operand to its register and to Z and N (R140), at the cost of a read (R131). -/
theorem ldaOp_eq (src : Source) (base : Nat) (s : State) :
    ldaOp src base s =
      { (loadOperand src s).state with
        cpu := { s.cpu with
          a := (loadOperand src s).value
          p := setZN (loadOperand src s).value s.cpu.p
          cycles := s.cpu.cycles + readCycles base (loadOperand src s).crossed } } :=
  readOp_eq _ (fun m c => { c with a := m, p := setZN m c.p }) (fun _ _ => rfl) src base s

theorem ldxOp_eq (src : Source) (base : Nat) (s : State) :
    ldxOp src base s =
      { (loadOperand src s).state with
        cpu := { s.cpu with
          x := (loadOperand src s).value
          p := setZN (loadOperand src s).value s.cpu.p
          cycles := s.cpu.cycles + readCycles base (loadOperand src s).crossed } } :=
  readOp_eq _ (fun m c => { c with x := m, p := setZN m c.p }) (fun _ _ => rfl) src base s

theorem ldyOp_eq (src : Source) (base : Nat) (s : State) :
    ldyOp src base s =
      { (loadOperand src s).state with
        cpu := { s.cpu with
          y := (loadOperand src s).value
          p := setZN (loadOperand src s).value s.cpu.p
          cycles := s.cpu.cycles + readCycles base (loadOperand src s).crossed } } :=
  readOp_eq _ (fun m c => { c with y := m, p := setZN m c.p }) (fun _ _ => rfl) src base s

/-- Settles O15: each form is its load at its source; the new P is `setZN` of the operand. -/
theorem loadsSetRegisterZeroNegative : Obligations.LoadsSetRegisterZeroNegative := by
  intro d d16 s
  refine ⟨fun f hf => ⟨encode_lda d d16 f hf, _, bitsChanged_setZN _ _, ?lda⟩,
    fun f hf => ⟨encode_ldx d d16 f hf, _, bitsChanged_setZN _ _, ?ldx⟩,
    fun f hf => ⟨encode_ldy d d16 f hf, _, bitsChanged_setZN _ _, ?ldy⟩⟩
  case lda => rw [exec_lda d d16 s f hf, ldaOp_eq]
  case ldx => rw [exec_ldx d d16 s f hf, ldxOp_eq]
  case ldy => rw [exec_ldy d d16 s f hf, ldyOp_eq]

/-! ### Stores and transfers -/

/-- Settles O16: each form is a store of its register at its mode (`exec_sta`, `exec_stx`, `exec_sty`), which is one bus
write and the cycles. -/
theorem storesWriteTheRegister : Obligations.StoresWriteTheRegister := by
  intro d d16 s
  refine ⟨fun f hf => ⟨encode_sta d d16 f hf, ?sta⟩, fun f hf => ⟨encode_stx d d16 f hf, ?stx⟩,
    fun f hf => ⟨encode_sty d d16 f hf, ?sty⟩⟩
  case sta => rw [exec_sta d d16 s f hf, staOp, storeOp_eq]
  case stx => rw [exec_stx d d16 s f hf, stxOp, storeOp_eq]
  case sty => rw [exec_sty d d16 s f hf, styOp, storeOp_eq]

/-- Settles O17: a transfer loads its register with another's byte, P changed by `setZN` of it; TXS writes SP alone. -/
theorem transfersCopyRegisters : Obligations.TransfersCopyRegisters := by
  intro s
  have flags := fun v => bitsChanged_setZN v s.cpu.p
  exact ⟨⟨rfl, _, flags s.cpu.a, rfl⟩, ⟨rfl, _, flags s.cpu.a, rfl⟩, ⟨rfl, _, flags s.cpu.x, rfl⟩,
    ⟨rfl, _, flags s.cpu.y, rfl⟩, ⟨rfl, _, flags s.cpu.sp, rfl⟩, rfl, rfl⟩

end Sys2Proof.Machine
end

section
/-! PROOFS. The stack instructions: the whole state each leaves (41_stack.md R160 to R163). -/

namespace Sys2Proof.Machine

/-- PHA stores A on the stack and moves SP down (R160). -/
theorem exec_pha (s : State) :
    exec .pha s = .next
      { s with
        ram := Memory.write s.ram (stackCell s.cpu.sp) s.cpu.a
        cpu := { s.cpu with sp := s.cpu.sp - 1, cycles := s.cpu.cycles + 3 } } := by
  change execPha s = _
  rw [execPha, push_eq, State.addCycles]

/-- PHP stores P with bits 5 and 4 set (R31, R161). -/
theorem exec_php (s : State) :
    exec .php s = .next
      { s with
        ram := Memory.write s.ram (stackCell s.cpu.sp) (statusPushedByInstruction s.cpu.p)
        cpu := { s.cpu with sp := s.cpu.sp - 1, cycles := s.cpu.cycles + 3 } } := by
  change execPhp s = _
  rw [execPhp, push_eq, State.addCycles]

/-- PLA moves SP up and loads A from there (R162). -/
theorem exec_pla (s : State) :
    exec .pla s = .next
      { s with
        cpu := { s.cpu with
          a := stackByte (s.cpu.sp + 1) s
          sp := s.cpu.sp + 1
          p := setZN (stackByte (s.cpu.sp + 1) s) s.cpu.p
          cycles := s.cpu.cycles + 4 } } := by
  change execPla s = _
  rw [execPla, pull_eq]
  rfl

/-- PLP moves SP up and takes P from there, but for the stored bits 5 and 4 (R31, R163). -/
theorem exec_plp (s : State) :
    exec .plp s = .next
      { s with
        cpu := { s.cpu with
          sp := s.cpu.sp + 1
          p := statusPulled (stackByte (s.cpu.sp + 1) s) s.cpu.p
          cycles := s.cpu.cycles + 4 } } := by
  change execPlp s = _
  rw [execPlp, pullStatus, pull_eq]
  rfl

/-- Settles O18: a push writes one cell of canonical RAM, and the status bytes are those of `statusPushedByInstruction`,
`setZN` and `statusPulled`. -/
theorem stackInstructions : Obligations.StackInstructions := by
  intro s hw
  have stored := CellsStored.single hw (stackCell s.cpu.sp)
  exact ⟨⟨rfl, _, stored s.cpu.a, exec_pha s⟩,
    ⟨rfl, _, _, bitsChanged_statusPushedByInstruction s.cpu.p, stored _, exec_php s⟩,
    ⟨rfl, _, bitsChanged_setZN _ s.cpu.p, exec_pla s⟩,
    ⟨rfl, _, bitsChanged_statusPulled _ s.cpu.p, exec_plp s⟩⟩

end Sys2Proof.Machine
end

section
/-! PROOFS. Addition, subtraction, compares, increments and decrements: the results and flags by numbers, and the whole
state each instruction leaves (42_arithmetic.md R170 to R181). -/

namespace Sys2Proof.Machine

/-! ### The encodings, by each rule's list -/

theorem encode_adc (d : Byte) (d16 : Word) : ∀ f ∈ Forms.adc d d16, encode f.instr = f.bytes := by
  simp only [Forms.adc, List.forall_mem_cons]
  exact ⟨rfl, rfl, rfl, rfl, rfl, rfl, rfl, rfl, List.forall_mem_nil _⟩

theorem encode_sbc (d : Byte) (d16 : Word) : ∀ f ∈ Forms.sbc d d16, encode f.instr = f.bytes := by
  simp only [Forms.sbc, List.forall_mem_cons]
  exact ⟨rfl, rfl, rfl, rfl, rfl, rfl, rfl, rfl, List.forall_mem_nil _⟩

theorem encode_cmp (d : Byte) (d16 : Word) : ∀ f ∈ Forms.cmp d d16, encode f.instr = f.bytes := by
  simp only [Forms.cmp, List.forall_mem_cons]
  exact ⟨rfl, rfl, rfl, rfl, rfl, rfl, rfl, rfl, List.forall_mem_nil _⟩

theorem encode_cpx (d : Byte) (d16 : Word) : ∀ f ∈ Forms.cpx d d16, encode f.instr = f.bytes := by
  simp only [Forms.cpx, List.forall_mem_cons]
  exact ⟨rfl, rfl, rfl, List.forall_mem_nil _⟩

theorem encode_cpy (d : Byte) (d16 : Word) : ∀ f ∈ Forms.cpy d d16, encode f.instr = f.bytes := by
  simp only [Forms.cpy, List.forall_mem_cons]
  exact ⟨rfl, rfl, rfl, List.forall_mem_nil _⟩

theorem encode_inc (d : Byte) (d16 : Word) : ∀ f ∈ Forms.inc d d16, encode f.instr = f.bytes := by
  simp only [Forms.inc, List.forall_mem_cons]
  exact ⟨rfl, rfl, rfl, rfl, List.forall_mem_nil _⟩

theorem encode_dec (d : Byte) (d16 : Word) : ∀ f ∈ Forms.dec d d16, encode f.instr = f.bytes := by
  simp only [Forms.dec, List.forall_mem_cons]
  exact ⟨rfl, rfl, rfl, rfl, List.forall_mem_nil _⟩

/-! ### Each form runs its operation at its source -/

theorem exec_adc (d : Byte) (d16 : Word) (s : State) :
    ∀ f ∈ Forms.adc d d16, exec f.instr s = .next (adcOp f.source f.base s) := by
  simp only [Forms.adc, List.forall_mem_cons]
  exact ⟨rfl, rfl, rfl, rfl, rfl, rfl, rfl, rfl, List.forall_mem_nil _⟩

theorem exec_sbc (d : Byte) (d16 : Word) (s : State) :
    ∀ f ∈ Forms.sbc d d16, exec f.instr s = .next (sbcOp f.source f.base s) := by
  simp only [Forms.sbc, List.forall_mem_cons]
  exact ⟨rfl, rfl, rfl, rfl, rfl, rfl, rfl, rfl, List.forall_mem_nil _⟩

theorem exec_cmp (d : Byte) (d16 : Word) (s : State) :
    ∀ f ∈ Forms.cmp d d16, exec f.instr s = .next (cmpOp f.source f.base s) := by
  simp only [Forms.cmp, List.forall_mem_cons]
  exact ⟨rfl, rfl, rfl, rfl, rfl, rfl, rfl, rfl, List.forall_mem_nil _⟩

theorem exec_cpx (d : Byte) (d16 : Word) (s : State) :
    ∀ f ∈ Forms.cpx d d16, exec f.instr s = .next (cpxOp f.source f.base s) := by
  simp only [Forms.cpx, List.forall_mem_cons]
  exact ⟨rfl, rfl, rfl, List.forall_mem_nil _⟩

theorem exec_cpy (d : Byte) (d16 : Word) (s : State) :
    ∀ f ∈ Forms.cpy d d16, exec f.instr s = .next (cpyOp f.source f.base s) := by
  simp only [Forms.cpy, List.forall_mem_cons]
  exact ⟨rfl, rfl, rfl, List.forall_mem_nil _⟩

/-! ### The nine-bit sum by numbers (R171) -/

theorem carryNat_eq (p : Byte) : carryNat p = (Flag.c.get p).toNat := by
  rw [Flag.get, Flag.bit, getLsbD_zero_eq, carryNat]
  rcases Nat.mod_two_eq_zero_or_one p.toNat with h | h <;> simp [h]

/-- The nine bits hold the whole sum. -/
theorem toNat_sum9 (a m : Byte) (c : Bool) : (sum9 a m c).toNat = a.toNat + m.toNat + c.toNat := by
  have := c.toNat_le
  simp only [sum9, BitVec.toNat_add, BitVec.toNat_setWidth, BitVec.toNat_ofBool]
  omega

theorem addResult_eq (a m : Byte) (c : Bool) : addResult a m c = BitVec.ofNat 8 (a.toNat + m.toNat + c.toNat) := by
  apply BitVec.eq_of_toNat_eq
  rw [addResult, BitVec.toNat_setWidth, toNat_sum9, BitVec.toNat_ofNat]

theorem addCarry_eq (a m : Byte) (c : Bool) : addCarry a m c = decide (256 ≤ a.toNat + m.toNat + c.toNat) := by
  have : (sum9 a m c).msb = addCarry a m c := BitVec.msb_eq_getLsbD_last _
  rw [← this, BitVec.msb_eq_decide, toNat_sum9]

/-- The rule's formula for V: the result's sign is neither operand's (R171). -/
theorem addOverflow_iff (a m : Byte) (c : Bool) :
    addOverflow a m c = true ↔
      ¬ (128 ≤ a.toNat ↔ 128 ≤ (addResult a m c).toNat) ∧ ¬ (128 ≤ m.toNat ↔ 128 ≤ (addResult a m c).toNat) := by
  simp only [addOverflow, BitVec.getLsbD_and, BitVec.getLsbD_xor, Bool.and_eq_true, Bool.xor_iff_ne, ne_eq]
  simp only [getLsbD_seven, decide_eq_decide]

/-- V is the signed overflow: by the operands' signs, the exact sum leaves the range of a byte just where the result has
another sign than both. -/
theorem addOverflow_eq (a m : Byte) (c : Bool) :
    addOverflow a m c = outOfSignedRange (a.toInt + m.toInt + c.toNat) := by
  have := c.toNat_le
  have hr : (addResult a m c).toNat = (a.toNat + m.toNat + c.toNat) % 256 := by
    rw [addResult_eq, BitVec.toNat_ofNat]
  rw [Bool.eq_iff_iff, addOverflow_iff, hr, outOfSignedRange, decide_eq_true_eq, BitVec.toInt_eq_toNat_cond,
    BitVec.toInt_eq_toNat_cond]
  split <;> split <;> omega

/-- The flags of an addition: C and V, then Z and N of the result. -/
theorem bitsChanged_addStatus (a m p : Byte) :
    let c := Flag.c.get p
    BitsChanged p (addStatus a m p)
      ([(0, addCarry a m c), (6, addOverflow a m c)] ++ zeroNegative (addResult a m c)) :=
  ((bitsChanged_put .c _ p).append (bitsChanged_put .v _ _) (by simp [Flag.bit])).append (bitsChanged_setZN _ _)
    (by simp [Flag.bit, zeroNegative])

/-! ### ADC and SBC -/

theorem adcOp_eq (src : Source) (base : Nat) (s : State) :
    adcOp src base s =
      { (loadOperand src s).state with
        cpu := { s.cpu with
          a := addResult s.cpu.a (loadOperand src s).value (Flag.c.get s.cpu.p)
          p := addStatus s.cpu.a (loadOperand src s).value s.cpu.p
          cycles := s.cpu.cycles + readCycles base (loadOperand src s).crossed } } :=
  readOp_eq _ (fun m c => { c with a := addResult c.a m (Flag.c.get c.p), p := addStatus c.a m c.p }) (fun _ _ => rfl)
    src base s

theorem sbcOp_eq (src : Source) (base : Nat) (s : State) :
    sbcOp src base s =
      { (loadOperand src s).state with
        cpu := { s.cpu with
          a := addResult s.cpu.a ((loadOperand src s).value ^^^ 0xFF) (Flag.c.get s.cpu.p)
          p := addStatus s.cpu.a ((loadOperand src s).value ^^^ 0xFF) s.cpu.p
          cycles := s.cpu.cycles + readCycles base (loadOperand src s).crossed } } :=
  readOp_eq _
    (fun m c => { c with a := addResult c.a (m ^^^ 0xFF) (Flag.c.get c.p), p := addStatus c.a (m ^^^ 0xFF) c.p })
    (fun _ _ => rfl) src base s

/-- Settles O19: the nine-bit sum holds A plus the operand plus C, so its low byte, its bit 8 and the rule's formula for
V are the numbers of the statement. -/
theorem addWithCarry : Obligations.AddWithCarry := by
  intro d d16 s f hf m sum r v
  have hr : addResult s.cpu.a m (Flag.c.get s.cpu.p) = r := by rw [addResult_eq, ← carryNat_eq]
  have hv : addOverflow s.cpu.a m (Flag.c.get s.cpu.p) = v := by rw [addOverflow_eq, ← carryNat_eq]
  have flags := bitsChanged_addStatus s.cpu.a m s.cpu.p
  simp only [hr, hv, addCarry_eq, ← carryNat_eq] at flags
  refine ⟨encode_adc d d16 f hf, ?formula, _, flags, ?next⟩
  case formula => rw [← hv, addOverflow, hr]
  case next => rw [exec_adc d d16 s f hf, adcOp_eq, hr]

/-! ### The subtraction as the addition of the complement (R172) -/

theorem toNat_complement (m : Byte) : (m ^^^ 0xFF).toNat = 255 - m.toNat := by
  rw [show (0xFF : Byte) = BitVec.allOnes 8 from rfl, BitVec.xor_allOnes, BitVec.toNat_not]

theorem toInt_complement (m : Byte) : (m ^^^ 0xFF).toInt = -1 - m.toInt := by
  have := m.isLt
  rw [BitVec.toInt_eq_toNat_cond, BitVec.toInt_eq_toNat_cond, toNat_complement]
  split <;> split <;> omega

/-- The carry that enters the addition is what the borrow leaves of 1. -/
theorem borrow_add_carry (p : Byte) : 1 - carryNat p + (Flag.c.get p).toNat = 1 := by
  have := (Flag.c.get p).toNat_le
  rw [carryNat_eq]
  omega

theorem subResult_eq (a m p : Byte) :
    addResult a (m ^^^ 0xFF) (Flag.c.get p) = BitVec.ofNat 8 (a.toNat + 256 - m.toNat - (1 - carryNat p)) := by
  have := m.isLt
  have := borrow_add_carry p
  rw [addResult_eq, toNat_complement]
  congr 1
  omega

theorem subCarry_eq (a m p : Byte) :
    addCarry a (m ^^^ 0xFF) (Flag.c.get p) = decide (m.toNat + (1 - carryNat p) ≤ a.toNat) := by
  have := m.isLt
  have := borrow_add_carry p
  rw [addCarry_eq, toNat_complement]
  exact decide_eq_decide.2 (by omega)

theorem subOverflow_eq (a m p : Byte) :
    addOverflow a (m ^^^ 0xFF) (Flag.c.get p) = outOfSignedRange (a.toInt - m.toInt - (1 - carryNat p : Nat)) := by
  have := borrow_add_carry p
  rw [addOverflow_eq, toInt_complement]
  congr 1
  omega

/-- The rule's formula for the V of a subtraction is that of the addition of the complement: the result's sign differs
from A's and agrees with the operand's. -/
theorem subOverflow_formula (a m : Byte) (c : Bool) :
    addOverflow a (m ^^^ 0xFF) c = ((a ^^^ m) &&& (a ^^^ addResult a (m ^^^ 0xFF) c)).getLsbD 7 := by
  simp only [addOverflow, BitVec.getLsbD_and, BitVec.getLsbD_xor]
  generalize (addResult a (m ^^^ 0xFF) c).getLsbD 7 = r
  cases a.getLsbD 7 <;> cases m.getLsbD 7 <;> cases r <;> rfl

/-- Settles O20: SBC adds the operand's complement, which is 255 less the operand, and C, which is 1 less the borrow. -/
theorem subtractWithBorrow : Obligations.SubtractWithBorrow := by
  intro d d16 s f hf m borrow r v
  have hr : addResult s.cpu.a (m ^^^ 0xFF) (Flag.c.get s.cpu.p) = r := subResult_eq _ _ _
  have hv : addOverflow s.cpu.a (m ^^^ 0xFF) (Flag.c.get s.cpu.p) = v := subOverflow_eq _ _ _
  have flags := bitsChanged_addStatus s.cpu.a (m ^^^ 0xFF) s.cpu.p
  simp only [hr, hv, subCarry_eq] at flags
  refine ⟨encode_sbc d d16 f hf, ?formula, _, flags, ?next⟩
  case formula => rw [← hv, subOverflow_formula, hr]
  case next => rw [exec_sbc d d16 s f hf, sbcOp_eq, hr]

/-! ### Compares -/

/-- The three flags of a compare, N by the number of the wrapped difference (R173). -/
theorem bitsChanged_compareStatus (r m p : Byte) :
    BitsChanged p (compareStatus r m p)
      [(0, decide (m.toNat ≤ r.toNat)), (1, decide (r = m)), (7, decide (128 ≤ (r.toNat + 256 - m.toNat) % 256))] := by
  have sign : (r - m).getLsbD 7 = decide (128 ≤ (r.toNat + 256 - m.toNat) % 256) := by
    have := m.isLt
    rw [getLsbD_seven, BitVec.toNat_sub]
    exact decide_eq_decide.2 (by omega)
  rw [← sign]
  exact ((bitsChanged_put .c _ p).append (bitsChanged_put .z _ _) (by simp [Flag.bit])).append (bitsChanged_put .n _ _)
    (by simp [Flag.bit])

/-- A compare of the register `reg`: P alone, at the cost of a read. -/
theorem compareOp_eq (reg : Cpu → Byte) (src : Source) (base : Nat) (s : State) :
    readOp (fun m t => t.setP (compareStatus (reg t.cpu) m t.cpu.p)) src base s =
      { (loadOperand src s).state with
        cpu := { s.cpu with
          p := compareStatus (reg s.cpu) (loadOperand src s).value s.cpu.p
          cycles := s.cpu.cycles + readCycles base (loadOperand src s).crossed } } :=
  readOp_eq _ (fun m c => { c with p := compareStatus (reg c) m c.p }) (fun _ _ => rfl) src base s

/-- Settles O21: each form is the compare of its register at its source; the new P is `compareStatus`. -/
theorem comparesSetFlagsOnly : Obligations.ComparesSetFlagsOnly := by
  rintro d d16 s f r (⟨hf, rfl⟩ | ⟨hf, rfl⟩ | ⟨hf, rfl⟩)
  · refine ⟨encode_cmp d d16 f hf, _, bitsChanged_compareStatus _ _ _, ?_⟩
    rw [exec_cmp d d16 s f hf, cmpOp, compareOp_eq Cpu.a]
  · refine ⟨encode_cpx d d16 f hf, _, bitsChanged_compareStatus _ _ _, ?_⟩
    rw [exec_cpx d d16 s f hf, cpxOp, compareOp_eq Cpu.x]
  · refine ⟨encode_cpy d d16 f hf, _, bitsChanged_compareStatus _ _ _, ?_⟩
    rw [exec_cpy d d16 s f hf, cpyOp, compareOp_eq Cpu.y]

/-! ### Increments and decrements -/

/-- A read-modify-write at either place: the operand read, the result stored, then P and the cycles (R103). -/
theorem modifyOp_eq (g : Byte → Byte → Byte × Byte) (pl : Place) (base : Nat) (s : State) :
    modifyOp g pl base s =
      let o := placeOperand pl s
      let w := placeStored pl (g o.1 s.cpu.p).1 s o.2
      { w with cpu := { w.cpu with p := (g o.1 s.cpu.p).2, cycles := w.cpu.cycles + base } } := by
  cases pl with
  | acc => rfl
  | mem m =>
    simp only [placeOperand, placeStored, effAddr_state]
    exact modifyOp_mem g m base s

theorem add_one_eq_ofNat (v : Byte) : v + 1 = BitVec.ofNat 8 (v.toNat + 1) := by
  apply BitVec.eq_of_toNat_eq
  rw [BitVec.toNat_add, BitVec.toNat_ofNat]
  rfl

theorem sub_one_eq_ofNat (v : Byte) : v - 1 = BitVec.ofNat 8 (v.toNat + 255) := by
  apply BitVec.eq_of_toNat_eq
  rw [BitVec.toNat_sub, BitVec.toNat_ofNat, Nat.add_comm]
  rfl

/-- Settles O22: INC and DEC are the read-modify-writes of `incByte` and `decByte`, INX, INY, DEX and DEY loads of their
own register's byte one more or one less; the new P is `setZN` of that byte. -/
theorem incrementAndDecrement : Obligations.IncrementAndDecrement := by
  refine ⟨?memory, fun s => ?registers⟩
  case memory =>
    rintro d d16 s f delta (⟨hf, rfl⟩ | ⟨hf, rfl⟩)
    · refine ⟨encode_inc d d16 f hf, _, bitsChanged_setZN _ _, ?_⟩
      rw [exec_inc d d16 s f hf, incOp, modifyOp_eq]
      simp only [incByte, add_one_eq_ofNat]
    · refine ⟨encode_dec d d16 f hf, _, bitsChanged_setZN _ _, ?_⟩
      rw [exec_dec d d16 s f hf, decOp, modifyOp_eq]
      simp only [decByte, sub_one_eq_ofNat]
  case registers =>
    have flags := fun v => bitsChanged_setZN v s.cpu.p
    simp only [← add_one_eq_ofNat, ← sub_one_eq_ofNat]
    exact ⟨⟨rfl, _, flags _, rfl⟩, ⟨rfl, _, flags _, rfl⟩, ⟨rfl, _, flags _, rfl⟩, rfl, _, flags _, rfl⟩

end Sys2Proof.Machine
end


section
/-! PROOFS. Logic, the bit test, shifts and rotates: the results and flags by numbers, and the whole state each
instruction leaves (43_logic_shift.md R190 to R197). -/

namespace Sys2Proof.Machine

/-! ### The encodings, by each rule's list -/

theorem encode_and (d : Byte) (d16 : Word) : ∀ f ∈ Forms.and d d16, encode f.instr = f.bytes := by
  simp only [Forms.and, List.forall_mem_cons]
  exact ⟨rfl, rfl, rfl, rfl, rfl, rfl, rfl, rfl, List.forall_mem_nil _⟩

theorem encode_ora (d : Byte) (d16 : Word) : ∀ f ∈ Forms.ora d d16, encode f.instr = f.bytes := by
  simp only [Forms.ora, List.forall_mem_cons]
  exact ⟨rfl, rfl, rfl, rfl, rfl, rfl, rfl, rfl, List.forall_mem_nil _⟩

theorem encode_eor (d : Byte) (d16 : Word) : ∀ f ∈ Forms.eor d d16, encode f.instr = f.bytes := by
  simp only [Forms.eor, List.forall_mem_cons]
  exact ⟨rfl, rfl, rfl, rfl, rfl, rfl, rfl, rfl, List.forall_mem_nil _⟩

theorem encode_bit (d : Byte) (d16 : Word) : ∀ f ∈ Forms.bit d d16, encode f.instr = f.bytes := by
  simp only [Forms.bit, List.forall_mem_cons]
  exact ⟨rfl, rfl, List.forall_mem_nil _⟩

theorem encode_asl (d : Byte) (d16 : Word) : ∀ f ∈ Forms.asl d d16, encode f.instr = f.bytes := by
  simp only [Forms.asl, List.forall_mem_cons]
  exact ⟨rfl, rfl, rfl, rfl, rfl, List.forall_mem_nil _⟩

theorem encode_lsr (d : Byte) (d16 : Word) : ∀ f ∈ Forms.lsr d d16, encode f.instr = f.bytes := by
  simp only [Forms.lsr, List.forall_mem_cons]
  exact ⟨rfl, rfl, rfl, rfl, rfl, List.forall_mem_nil _⟩

theorem encode_rol (d : Byte) (d16 : Word) : ∀ f ∈ Forms.rol d d16, encode f.instr = f.bytes := by
  simp only [Forms.rol, List.forall_mem_cons]
  exact ⟨rfl, rfl, rfl, rfl, rfl, List.forall_mem_nil _⟩

theorem encode_ror (d : Byte) (d16 : Word) : ∀ f ∈ Forms.ror d d16, encode f.instr = f.bytes := by
  simp only [Forms.ror, List.forall_mem_cons]
  exact ⟨rfl, rfl, rfl, rfl, rfl, List.forall_mem_nil _⟩

/-! ### AND, ORA and EOR -/

theorem exec_and (d : Byte) (d16 : Word) (s : State) :
    ∀ f ∈ Forms.and d d16, exec f.instr s = .next (andOp f.source f.base s) := by
  simp only [Forms.and, List.forall_mem_cons]
  exact ⟨rfl, rfl, rfl, rfl, rfl, rfl, rfl, rfl, List.forall_mem_nil _⟩

theorem exec_ora (d : Byte) (d16 : Word) (s : State) :
    ∀ f ∈ Forms.ora d d16, exec f.instr s = .next (oraOp f.source f.base s) := by
  simp only [Forms.ora, List.forall_mem_cons]
  exact ⟨rfl, rfl, rfl, rfl, rfl, rfl, rfl, rfl, List.forall_mem_nil _⟩

theorem exec_eor (d : Byte) (d16 : Word) (s : State) :
    ∀ f ∈ Forms.eor d d16, exec f.instr s = .next (eorOp f.source f.base s) := by
  simp only [Forms.eor, List.forall_mem_cons]
  exact ⟨rfl, rfl, rfl, rfl, rfl, rfl, rfl, rfl, List.forall_mem_nil _⟩

/-- A logic instruction with the bitwise operation `g`: A, and P by the result, at the cost of a read (R131). -/
theorem logicOp_eq (g : Byte → Byte → Byte) (src : Source) (base : Nat) (s : State) :
    readOp (fun m t => t.loadA (g t.cpu.a m)) src base s =
      { (loadOperand src s).state with
        cpu := { s.cpu with
          a := g s.cpu.a (loadOperand src s).value
          p := setZN (g s.cpu.a (loadOperand src s).value) s.cpu.p
          cycles := s.cpu.cycles + readCycles base (loadOperand src s).crossed } } :=
  readOp_eq _ (fun m c => { c with a := g c.a m, p := setZN (g c.a m) c.p }) (fun _ _ => rfl) src base s

/-! ### BIT -/

/-- Both forms of BIT run the bit test, at a mode that crosses no page. -/
theorem exec_bit (d : Byte) (d16 : Word) (s : State) :
    ∀ f ∈ Forms.bit d d16,
      exec f.instr s = .next (bitOp f.source f.base s) ∧ (loadOperand f.source s).crossed = false := by
  simp only [Forms.bit, List.forall_mem_cons]
  exact ⟨⟨rfl, rfl⟩, ⟨rfl, rfl⟩, List.forall_mem_nil _⟩

theorem bitOp_eq (src : Source) (base : Nat) (s : State) :
    bitOp src base s =
      { (loadOperand src s).state with
        cpu := { s.cpu with
          p := bitTestStatus s.cpu.a (loadOperand src s).value s.cpu.p
          cycles := s.cpu.cycles + readCycles base (loadOperand src s).crossed } } :=
  readOp_eq _ (fun m c => { c with p := bitTestStatus c.a m c.p }) (fun _ _ => rfl) src base s

theorem getLsbD_six (v : Byte) : v.getLsbD 6 = decide (64 ≤ v.toNat % 128) := by
  rw [BitVec.getLsbD, Nat.testBit_eq_decide_div_mod_eq]
  exact decide_eq_decide.2 (by omega)

/-- The three flags of BIT, N and V by the number of the memory byte (R193). -/
theorem bitsChanged_bitTestStatus (a m p : Byte) :
    BitsChanged p (bitTestStatus a m p)
      [(1, decide (a &&& m = 0)), (7, decide (128 ≤ m.toNat)), (6, decide (64 ≤ m.toNat % 128))] := by
  rw [← getLsbD_seven, ← getLsbD_six]
  exact ((bitsChanged_put .z _ p).append (bitsChanged_put .n _ _) (by simp [Flag.bit])).append (bitsChanged_put .v _ _)
    (by simp [Flag.bit])

/-- Settles O23: each logic form loads A with its bitwise operation, P changed by `setZN` of the result; BIT writes P
alone, by `bitTestStatus`. -/
theorem logicAndBitTest : Obligations.LogicAndBitTest := by
  refine ⟨?logic, fun d d16 s f hf => ?bit⟩
  case logic =>
    rintro d d16 s f r (⟨hf, rfl⟩ | ⟨hf, rfl⟩ | ⟨hf, rfl⟩)
    · refine ⟨encode_and d d16 f hf, _, bitsChanged_setZN _ _, ?_⟩
      rw [exec_and d d16 s f hf, andOp, logicOp_eq (· &&& ·)]
    · refine ⟨encode_ora d d16 f hf, _, bitsChanged_setZN _ _, ?_⟩
      rw [exec_ora d d16 s f hf, oraOp, logicOp_eq (· ||| ·)]
    · refine ⟨encode_eor d d16 f hf, _, bitsChanged_setZN _ _, ?_⟩
      rw [exec_eor d d16 s f hf, eorOp, logicOp_eq (· ^^^ ·)]
  case bit =>
    obtain ⟨hexec, hcrossed⟩ := exec_bit d d16 s f hf
    refine ⟨encode_bit d d16 f hf, _, bitsChanged_bitTestStatus _ _ _, ?_⟩
    rw [hexec, bitOp_eq, hcrossed]
    rfl

/-! ### Shifts and rotates by numbers -/

theorem shiftLeft_eq_ofNat (m : Byte) : m <<< 1 = BitVec.ofNat 8 (2 * m.toNat % 256) := by
  apply BitVec.eq_of_toNat_eq
  rw [BitVec.toNat_shiftLeft, BitVec.toNat_ofNat, Nat.shiftLeft_eq]
  omega

theorem shiftRight_eq_ofNat (m : Byte) : m >>> 1 = BitVec.ofNat 8 (m.toNat / 2) := by
  apply BitVec.eq_of_toNat_eq
  have := m.isLt
  rw [BitVec.toNat_ushiftRight, BitVec.toNat_ofNat, Nat.shiftRight_eq_div_pow]
  omega

theorem toNat_bitByte_carry (p : Byte) : (bitByte (Flag.c.get p)).toNat = carryNat p := by
  rw [carryNat_eq]
  cases Flag.c.get p <;> rfl

/-- The old carry enters the bit a left shift leaves 0, so it is added (R196). -/
theorem rotateLeft_eq_ofNat (m p : Byte) :
    (m <<< 1) ||| bitByte (Flag.c.get p) = BitVec.ofNat 8 ((2 * m.toNat + carryNat p) % 256) := by
  apply BitVec.eq_of_toNat_eq
  have hc : carryNat p < 2 ^ 1 := Nat.mod_lt _ (by decide)
  have even : 2 * m.toNat % 256 = 2 ^ 1 * (m.toNat % 128) := by omega
  rw [shiftLeft_eq_ofNat, BitVec.toNat_or, toNat_bitByte_carry, BitVec.toNat_ofNat, BitVec.toNat_ofNat, Nat.mod_mod,
    even, ← Nat.two_pow_add_eq_or_of_lt hc]
  omega

/-- The old carry enters bit 7, which a right shift leaves 0, so 128 times it is added (R197). -/
theorem rotateRight_eq_ofNat (m p : Byte) :
    (m >>> 1) ||| (bitByte (Flag.c.get p) <<< 7) = BitVec.ofNat 8 (m.toNat / 2 + 128 * carryNat p) := by
  apply BitVec.eq_of_toNat_eq
  have hm : m.toNat / 2 < 2 ^ 7 := by have := m.isLt; omega
  have hc : carryNat p < 2 := Nat.mod_lt _ (by decide)
  have high : carryNat p <<< 7 % 2 ^ 8 = 2 ^ 7 * carryNat p := by rw [Nat.shiftLeft_eq]; omega
  rw [BitVec.toNat_or, BitVec.toNat_ushiftRight, BitVec.toNat_shiftLeft, toNat_bitByte_carry, high,
    Nat.shiftRight_eq_div_pow, Nat.or_comm, ← Nat.two_pow_add_eq_or_of_lt hm, BitVec.toNat_ofNat]
  omega

/-- What a shift or rotate makes of its operand and of P, by the number of the result and the bit shifted out (R194 to
R197). -/
def shiftOutcome (r : Nat) (carry : Bool) (p : Byte) : Byte × Byte :=
  (BitVec.ofNat 8 r, setZN (BitVec.ofNat 8 r) (Flag.c.put carry p))

theorem aslByte_eq (m p : Byte) : aslByte m p = shiftOutcome (2 * m.toNat % 256) (decide (128 ≤ m.toNat)) p := by
  rw [aslByte, shiftOutcome, shiftLeft_eq_ofNat, getLsbD_seven]

theorem lsrByte_eq (m p : Byte) : lsrByte m p = shiftOutcome (m.toNat / 2) (decide (m.toNat % 2 = 1)) p := by
  rw [lsrByte, shiftOutcome, shiftRight_eq_ofNat, getLsbD_zero_eq]

theorem rolByte_eq (m p : Byte) :
    rolByte m p = shiftOutcome ((2 * m.toNat + carryNat p) % 256) (decide (128 ≤ m.toNat)) p := by
  rw [rolByte, shiftOutcome, rotateLeft_eq_ofNat, getLsbD_seven]

theorem rorByte_eq (m p : Byte) :
    rorByte m p = shiftOutcome (m.toNat / 2 + 128 * carryNat p) (decide (m.toNat % 2 = 1)) p := by
  rw [rorByte, shiftOutcome, rotateRight_eq_ofNat, getLsbD_zero_eq]

theorem bitsChanged_shiftOutcome (r : Nat) (carry : Bool) (p : Byte) :
    BitsChanged p (shiftOutcome r carry p).2 ([(0, carry)] ++ zeroNegative (BitVec.ofNat 8 r)) :=
  (bitsChanged_put .c carry p).append (bitsChanged_setZN _ _) (by simp [Flag.bit, zeroNegative])

/-- Settles O24: each form is the read-modify-write of its shift at its place, and by numbers every shift answers a
`shiftOutcome`, which gives the byte stored and the new P. -/
theorem shiftsAndRotates : Obligations.ShiftsAndRotates := by
  intro d d16 s f r carry h
  have shift : ∃ g, encode f.instr = f.bytes ∧ exec f.instr s = .next (modifyOp g f.place f.base s) ∧
      g (placeOperand f.place s).1 s.cpu.p = shiftOutcome r carry s.cpu.p := by
    rcases h with ⟨hf, rfl, rfl⟩ | ⟨hf, rfl, rfl⟩ | ⟨hf, rfl, rfl⟩ | ⟨hf, rfl, rfl⟩
    · exact ⟨aslByte, encode_asl d d16 f hf, exec_asl d d16 s f hf, aslByte_eq _ _⟩
    · exact ⟨lsrByte, encode_lsr d d16 f hf, exec_lsr d d16 s f hf, lsrByte_eq _ _⟩
    · exact ⟨rolByte, encode_rol d d16 f hf, exec_rol d d16 s f hf, rolByte_eq _ _⟩
    · exact ⟨rorByte, encode_ror d d16 f hf, exec_ror d d16 s f hf, rorByte_eq _ _⟩
  obtain ⟨g, hencode, hexec, hg⟩ := shift
  refine ⟨hencode, _, bitsChanged_shiftOutcome r carry s.cpu.p, ?_⟩
  simp only [hexec, modifyOp_eq, hg, shiftOutcome]

end Sys2Proof.Machine
end

section
/-! PROOFS. Jumps, the subroutine pair and the branches: the whole state each leaves (44_control_flow.md R210 to R222). -/

namespace Sys2Proof.Machine

/-! ### Jumps -/

/-- A jump through a pointer: the two reads, PC their word (R210). -/
theorem exec_jmpInd (d16 : Word) (s : State) :
    let l := memRead d16 s
    let h := memRead (w16 (hi d16) (lo d16 + 1)) l.2
    exec (.jmpInd d16) s = .next { h.2 with cpu := { s.cpu with pc := w16 h.1 l.1, cycles := s.cpu.cycles + 5 } } := by
  change execJmpInd d16 s = _
  simp only [execJmpInd, memRead16PW, readPair, State.setPC, State.addCycles, memRead_cpu]

/-- The pointer's second byte is read in the page of its first (R12, R114). -/
theorem toNat_nextInPage (a : Word) : (w16 (hi a) (lo a + 1)).toNat = a.toNat / 256 * 256 + (a.toNat + 1) % 256 := by
  have next : (lo a + 1).toNat = (a.toNat + 1) % 256 := by
    rw [BitVec.toNat_add, toNat_lo]
    exact Nat.mod_add_mod a.toNat 256 1
  rw [toNat_w16, toNat_hi, next]

/-- Settles O25: the address of the pointer's second byte is the one `toNat_nextInPage` numbers. -/
theorem jumpsGoToTheTarget : Obligations.JumpsGoToTheTarget := by
  intro d16 high s hhigh
  obtain rfl : high = w16 (hi d16) (lo d16 + 1) := BitVec.eq_of_toNat_eq (hhigh.trans (toNat_nextInPage d16).symm)
  exact ⟨rfl, rfl, rfl, exec_jmpInd d16 s⟩

/-! ### JSR and RTS -/

/-- JSR pushes the address of its own last byte (R211). -/
theorem exec_jsr (d16 : Word) (s : State) :
    exec (.jsr d16) s = .next
      { s with
        ram := Memory.write (Memory.write s.ram (stackCell s.cpu.sp) (hi (s.cpu.pc - 1)))
          (stackCell (s.cpu.sp - 1)) (lo (s.cpu.pc - 1))
        cpu := { s.cpu with sp := s.cpu.sp - 2, pc := d16, cycles := s.cpu.cycles + 6 } } := by
  change execJsr d16 s = _
  rw [execJsr, pushWord_eq]
  rfl

/-- RTS pulls an address and goes to the one after it (R212). -/
theorem exec_rts (s : State) :
    exec .rts s = .next
      { s with
        cpu := { s.cpu with
          sp := s.cpu.sp + 2
          pc := w16 (stackByte (s.cpu.sp + 2) s) (stackByte (s.cpu.sp + 1) s) + 1
          cycles := s.cpu.cycles + 6 } } := by
  change execRts s = _
  rw [execRts, pullWord_eq]
  rfl

/-- Settles O26: the two cells are those of a pushed word, and RTS is `exec_rts`. -/
theorem subroutineCallAndReturn : Obligations.SubroutineCallAndReturn := by
  intro d16 s hw
  exact ⟨⟨rfl, _, pushWord_cells hw s.cpu.sp (s.cpu.pc - 1), exec_jsr d16 s⟩, rfl, exec_rts s⟩

/-! ### Branches -/

/-- The branch target by numbers: the signed offset added, modulo 65,536 (R117). -/
theorem branchTarget_eq_ofInt (d : Byte) (s : State) : branchTarget d s = BitVec.ofInt 16 (s.cpu.pc.toNat + d.toInt) := by
  rw [BitVec.ofInt_add, BitVec.ofInt_natCast, BitVec.ofNat_toNat, BitVec.setWidth_eq]
  rfl

/-- A taken branch costs 3 cycles, 4 into another page (R132). -/
theorem takenCycles_eq (target pc : Word) :
    2 + (1 + if pageDiffers target pc then 1 else 0) = if target.toNat / 256 = pc.toNat / 256 then 3 else 4 := by
  by_cases samePage : target.toNat / 256 = pc.toNat / 256 <;> simp [pageDiffers_iff, samePage]

/-- Settles O27: each branch is `branchOp` with its flag and the value it wants, taken just where the flag has it. -/
theorem branchesFollowTheirFlag : Obligations.BranchesFollowTheirFlag := by
  intro d s i op bit wanted hmem target
  have branch : ∃ f, encode i = [op, d] ∧ Flag.bit f = bit ∧ exec i s = .next (branchOp f wanted d s) := by
    simp only [List.mem_cons, List.not_mem_nil, or_false, Prod.mk.injEq] at hmem
    rcases hmem with ⟨rfl, rfl, rfl, rfl⟩ | ⟨rfl, rfl, rfl, rfl⟩ | ⟨rfl, rfl, rfl, rfl⟩ | ⟨rfl, rfl, rfl, rfl⟩ |
      ⟨rfl, rfl, rfl, rfl⟩ | ⟨rfl, rfl, rfl, rfl⟩ | ⟨rfl, rfl, rfl, rfl⟩ | ⟨rfl, rfl, rfl, rfl⟩
    · exact ⟨.c, rfl, rfl, rfl⟩
    · exact ⟨.c, rfl, rfl, rfl⟩
    · exact ⟨.z, rfl, rfl, rfl⟩
    · exact ⟨.z, rfl, rfl, rfl⟩
    · exact ⟨.n, rfl, rfl, rfl⟩
    · exact ⟨.n, rfl, rfl, rfl⟩
    · exact ⟨.v, rfl, rfl, rfl⟩
    · exact ⟨.v, rfl, rfl, rfl⟩
  obtain ⟨f, hencode, rfl, hexec⟩ := branch
  refine ⟨hencode, fun taken => ?_, fun notTaken => ?_⟩
  · rw [hexec, branchOp_taken taken, takenCycles_eq, branchTarget_eq_ofInt]
    rfl
  · rw [hexec, branchOp_not_taken notTaken, State.addCycles]

end Sys2Proof.Machine
end

section
/-! PROOFS. The flag instructions, NOP, BRK and RTI: the whole state each leaves (45_flags_system.md R230 to R239). -/

namespace Sys2Proof.Machine

/-! ### BRK -/

/-- An entry by the two bus reads of its vector, made after the three pushes and with I set (R238, R271). -/
theorem takeInterrupt_reads {vector : Word} (h : 0x4020 ≤ vector.toNat) (h1 : vector.toNat < 0xFFFF) (returnTo : Word)
    (status : Byte) (s : State) :
    let saved : State := { s with
      ram := Memory.write (Memory.write (Memory.write s.ram (stackCell s.cpu.sp) (hi returnTo))
        (stackCell (s.cpu.sp - 1)) (lo returnTo)) (stackCell (s.cpu.sp - 2)) status
      cpu := { s.cpu with sp := s.cpu.sp - 3, p := Flag.i.put true s.cpu.p } }
    let low := memRead vector saved
    let high := memRead (vector + 1) low.2
    takeInterrupt vector returnTo status s = { saved with
      cart := high.2.cart
      cpu := { saved.cpu with pc := w16 high.1 low.1, cycles := s.cpu.cycles + 7 } } := by
  have next : 0x4020 ≤ (vector + 1).toNat := by bv_omega
  simp only [takeInterrupt_eq h h1, memRead_cart h, memRead_cart next, Cart.readWord]

/-- The byte read at an address of the cartridge is the cartridge's answer: the rest of the state has no part in it (R65). -/
theorem peek_cart {a : Word} (h : 0x4020 ≤ a.toNat) {s t : State} (hcart : t.cart = s.cart) : peek a t = peek a s := by
  rw [peek, peek, memRead_cart h, memRead_cart h, hcart]

/-- The two reads of a vector in the no-bank-switching cartridge, from any state with the cartridge of `s`: its two bytes,
and no effect on it (R80). -/
theorem vectorReads_plain {vector : Word} (h : 0x4020 ≤ vector.toNat) (h1 : vector.toNat < 0xFFFF) {s t : State}
    (hcart : t.cart = s.cart) (hp : s.plainCart) :
    let low := memRead vector t
    let high := memRead (vector + 1) low.2
    high.2.cart = s.cart ∧ high.1 = peek (vector + 1) s ∧ low.1 = peek vector s := by
  have next : 0x4020 ≤ (vector + 1).toNat := by bv_omega
  have plain : t.plainCart := by rwa [State.plainCart, hcart]
  have noEffect : (memRead vector t).2 = t := memRead_plain (.inr ⟨h, plain⟩)
  dsimp only
  rw [noEffect, memRead_plain (.inr ⟨next, plain⟩)]
  exact ⟨hcart, peek_cart next hcart, peek_cart h hcart⟩

/-- Settles O29: BRK is the shared entry with the address of BRK plus 2 and the status byte of an instruction. -/
theorem breakEntersTheIrqVector : Obligations.BreakEntersTheIrqVector := by
  intro s hw
  obtain ⟨inCart, notLast⟩ : 0x4020 ≤ irqVector.toNat ∧ irqVector.toNat < 0xFFFF := by decide
  have entry : exec .brk s =
      .next (takeInterrupt irqVector (s.cpu.pc + 1) (statusPushedByInstruction s.cpu.p) s) := rfl
  exact ⟨rfl, _, _, _, bitsChanged_put .i true s.cpu.p, bitsChanged_statusPushedByInstruction s.cpu.p,
    frame_cells hw s.cpu.sp (s.cpu.pc + 1) _,
    entry.trans (congrArg Host.Outcome.next (takeInterrupt_reads inCart notLast _ _ s)),
    vectorReads_plain inCart notLast rfl⟩

/-! ### The flag instructions and NOP -/

/-- Settles O28: each flag instruction is `setFlag` at its flag and value, and NOP changes no bit. -/
theorem flagInstructionsWriteOneFlag : Obligations.FlagInstructionsWriteOneFlag := by
  intro s i op changes hmem
  simp only [List.mem_cons, List.not_mem_nil, or_false, Prod.mk.injEq] at hmem
  rcases hmem with ⟨rfl, rfl, rfl⟩ | ⟨rfl, rfl, rfl⟩ | ⟨rfl, rfl, rfl⟩ | ⟨rfl, rfl, rfl⟩ | ⟨rfl, rfl, rfl⟩ |
    ⟨rfl, rfl, rfl⟩ | ⟨rfl, rfl, rfl⟩ | ⟨rfl, rfl, rfl⟩
  · exact ⟨rfl, _, bitsChanged_put .c false s.cpu.p, rfl⟩
  · exact ⟨rfl, _, bitsChanged_put .c true s.cpu.p, rfl⟩
  · exact ⟨rfl, _, bitsChanged_put .i false s.cpu.p, rfl⟩
  · exact ⟨rfl, _, bitsChanged_put .i true s.cpu.p, rfl⟩
  · exact ⟨rfl, _, bitsChanged_put .v false s.cpu.p, rfl⟩
  · exact ⟨rfl, _, bitsChanged_put .d false s.cpu.p, rfl⟩
  · exact ⟨rfl, _, bitsChanged_put .d true s.cpu.p, rfl⟩
  · exact ⟨rfl, s.cpu.p, ⟨by simp, fun _ _ => rfl⟩, rfl⟩

/-! ### RTI -/

/-- RTI pulls P, then PC, with no 1 added (R239). -/
theorem exec_rti (s : State) :
    exec .rti s = .next
      { s with
        cpu := { s.cpu with
          sp := s.cpu.sp + 3
          p := statusPulled (stackByte (s.cpu.sp + 1) s) s.cpu.p
          pc := w16 (stackByte (s.cpu.sp + 3) s) (stackByte (s.cpu.sp + 2) s)
          cycles := s.cpu.cycles + 6 } } := by
  change execRti s = _
  rw [execRti, returnFromInterrupt_eq, State.addCycles]

/-- Settles O30: the pulled status byte is that of `statusPulled`, and the rest is `exec_rti`. -/
theorem returnFromInterruptRestores : Obligations.ReturnFromInterruptRestores :=
  fun s => ⟨rfl, _, bitsChanged_statusPulled _ s.cpu.p, exec_rti s⟩

end Sys2Proof.Machine
end

section
/-! PROOFS. A CPU step and a step of the machine, case by case, and what every instruction leaves alone (60_exceptions.md
R250 to R253, R264 to R268, R271, R280, R285). -/

namespace Sys2Proof.Machine

/-! ### One equation for each case of a step -/

theorem cpuStep_of_halted {s : State} {r : HaltRecord} (h : s.cpu.halted = some r) :
    cpuStep s = .fault (.halted r.addr r.opcode) := by
  simp only [cpuStep, h]

theorem cpuStep_of_nmi {s : State} (h : s.cpu.halted = none) (hn : s.cpu.nmiPending = true) :
    cpuStep s = .next (interruptEntry nmiVector (s.setNmiPending false)) := by
  simp only [cpuStep, h, hn, if_true]

theorem cpuStep_of_irq {s : State} (h : s.cpu.halted = none) (hn : s.cpu.nmiPending = false)
    (hq : s.cpu.irqPending = true) (hi : s.cpu.p.getLsbD 2 = false) :
    cpuStep s = .next (interruptEntry irqVector (s.setIrqPending false)) := by
  have serviced : s.cpu.irqPending = true ∧ ¬ s.flag .i = true := ⟨hq, fun masked => nomatch hi.symm.trans masked⟩
  simp only [cpuStep, h, hn, Bool.false_eq_true, if_false, if_pos serviced]

theorem cpuStep_of_runs {s : State} (h : RunsInstruction s) : cpuStep s = runInstruction s := by
  obtain ⟨running, noNmi, noIrq⟩ := h
  have notServiced : ¬ (s.cpu.irqPending = true ∧ ¬ s.flag .i = true) := fun ⟨hq, hi⟩ =>
    noIrq.elim (fun noRequest => nomatch noRequest.symm.trans hq) hi
  simp only [cpuStep, running, noNmi, Bool.false_eq_true, if_false, if_neg notServiced]

theorem systemStep_of_halted {s : State} {r : HaltRecord} (env : EnvInput) (h : s.cpu.halted = some r) :
    systemStep env s = .fault (.halted r.addr r.opcode) := by
  simp only [systemStep, h]

theorem systemStep_of_running {s : State} (env : EnvInput) (h : s.cpu.halted = none) :
    systemStep env s = afterCpuStep s.cpu.cycles (cpuStep (applyEnv env s)) := by
  simp only [systemStep, h]

theorem step_of_noInputs {s : State} (h : s.inputs = []) : step s = systemStep (quietEnv s) s := by
  simp only [step, hostStep, h]

theorem step_of_boundary {s : State} {env : EnvInput} {later : List HostInput}
    (h : s.inputs = .boundary env :: later) : step s = systemStep env { s with inputs := later } := by
  simp only [step, hostStep, h]

theorem step_of_reset {s : State} {later : List HostInput} (h : s.inputs = .reset :: later) :
    step s = .next (hostReset { s with inputs := later }) := by
  simp only [step, hostStep, h]

/-- A quiet boundary changes nothing (log entry 3). -/
theorem applyEnv_quietEnv (s : State) : applyEnv (quietEnv s) s = s := rfl

/-- A step is the CPU step at its boundary and what follows it (R285). -/
theorem step_atBoundary {s b : State} (h : AtBoundary s b) (hb : b.cpu.halted = none) :
    step s = afterCpuStep s.cpu.cycles (cpuStep b) := by
  rcases h with ⟨noInputs, rfl⟩ | ⟨env, later, hin, rfl⟩
  · rw [step_of_noInputs noInputs, systemStep_of_running _ hb, applyEnv_quietEnv]
  · have running : s.cpu.halted = none := by rwa [applyEnv_eq] at hb
    rw [step_of_boundary hin, systemStep_of_running (s := { s with inputs := later }) _ running]

theorem step_of_runs {s b : State} (h : AtBoundary s b) (hb : RunsInstruction b) :
    step s = afterCpuStep s.cpu.cycles (runInstruction b) := by
  rw [step_atBoundary h hb.1, cpuStep_of_runs hb]

/-! ### Running the instruction at PC -/

theorem runInstruction_of_instr {s u : State} {i : Instr} (h : fetch s = .instr i u) : runInstruction s = exec i u := by
  simp only [runInstruction, h]

/-- An instruction after its fetch keeps of the CPU what `exec` keeps: the fetch moves PC only. -/
theorem Fetched.After.cpuKept {s u t : State} {i : Instr} (hu : Fetched.After s u) (ht : exec i u = .next t) :
    CpuKept s.cpu t.cpu := by
  obtain ⟨w, hw⟩ := hu.cpu
  have kept := (exec_effect ht).cpuKept
  rw [hw] at kept
  exact ⟨kept.nmiPending, kept.irqPending, kept.halted, kept.unused, kept.break_, kept.cycles⟩

/-- The instruction at PC answers a next state, or its opcode byte is illegal (R251, R253). -/
theorem runInstruction_cases (s : State) :
    (∃ t, runInstruction s = .next t ∧ CpuKept s.cpu t.cpu) ∨
      ∃ op u, op.toNat ∈ illegalOpcodes ∧
        runInstruction s = .fault (.illegalOpcode s.cpu.pc op (halt s.cpu.pc op u)) := by
  cases hf : fetch s with
  | instr i u =>
    obtain ⟨t, ht⟩ := exec_next i u
    exact .inl ⟨t, (runInstruction_of_instr hf).trans ht, (fetch_after hf).cpuKept ht⟩
  | illegal op u => exact .inr ⟨op, u, (fetch_illegal_iff.1 hf).1, runInstruction_of_illegal hf⟩

/-! ### What an instruction and a CPU step leave alone outside the CPU -/

/-- What a write keeps outside the CPU, with any CPU in both states. -/
theorem WriteKept.withCpu {s t : State} (h : WriteKept s t) (c : Cpu) :
    WriteKept { s with cpu := c } { t with cpu := c } :=
  { h with cpu := rfl, cycles := Nat.le_refl _ }

/-- RAM and the cartridge are no part of what a write keeps. -/
theorem WriteKept.of_stack (s : State) (m : Memory) (d : Cart) : WriteKept s { s with ram := m, cart := d } := by
  constructor <;> rfl

/-- The state an instruction leaves, but for its CPU, keeps all a bus write keeps. -/
theorem Effect.writeKept {s t : State} (h : Effect s t) : WriteKept s { t with cpu := s.cpu } := by
  cases h with
  | read u c hu _ => exact hu.effects.writeKept.withCpu s.cpu
  | write u a v c hu _ => exact (hu.effects.writeKept.trans (memWrite_kept a v u)).withCpu s.cpu
  | stack m d c _ _ _ => exact .of_stack s m d

/-- Settles O10: `exec` is total, its CPU is `CpuKept`, and the rest keeps what a bus write keeps. -/
theorem everyInstructionCompletes : Obligations.EveryInstructionCompletes := by
  intro i s
  obtain ⟨t, ht⟩ := exec_next i s
  have hc := (exec_effect ht).cpuKept
  have hk := (exec_effect ht).writeKept
  exact ⟨t, ht, hc.cycles, hc.nmiPending, hc.irqPending, hc.halted, hc.unused, hc.break_, hk.buttons1, hk.buttons2,
    hk.inputs, hk.params, hk.scanline, hk.dot, hk.frame, hk.lineSprites, hk.sprite0Hit, hk.spriteOverflow, hk.back,
    hk.front⟩

/-- A CPU step keeps outside the CPU all a bus write keeps: an entry stores to the stack and reads its vector. -/
theorem CpuStepped.writeKept {s t : State} (h : CpuStepped s t) : WriteKept s { t with cpu := s.cpu } := by
  cases h with
  | entry v hv c _ =>
    rw [interruptEntry_eq hv]
    exact .of_stack s _ _
  | run i u t hu ht =>
    obtain ⟨r, hr, hu⟩ := hu.reads
    have kept := (exec_effect ht).writeKept
    rw [hu] at kept
    exact (hr.effects.writeKept.trans (t := r) (kept.withCpu r.cpu)).withCpu s.cpu

/-- A CPU step costs at least 2 cycles (R251). -/
theorem CpuStepped.cycles {s t : State} (h : CpuStepped s t) : s.cpu.cycles + 2 ≤ t.cpu.cycles := by
  cases h with
  | entry v hv c hc =>
    rw [interruptEntry_eq hv, hc]
    exact Nat.add_le_add_left (by decide) _
  | run i u t hu ht => exact (hu.cpuKept ht).cycles

/-! ### The CPU step's outcomes -/

/-- Settles O9: an entry costs 7 cycles, and the instruction at PC answers or its opcode byte is illegal. -/
theorem cpuStepHasThreeOutcomes : Obligations.CpuStepHasThreeOutcomes := by
  intro s
  cases halted : s.cpu.halted with
  | some r => exact .inr (.inr ⟨r, rfl, cpuStep_of_halted halted⟩)
  | none =>
    have answers : ∀ {t}, cpuStep s = .next t → ∃ t, cpuStep s = .next t ∧ s.cpu.cycles + 2 ≤ t.cpu.cycles :=
      fun h => ⟨_, h, (cpuStep_cases h).cycles⟩
    cases nmi : s.cpu.nmiPending with
    | true => exact .inl ⟨rfl, answers (cpuStep_of_nmi halted nmi)⟩
    | false =>
      by_cases noIrq : s.cpu.irqPending = false ∨ s.cpu.p.getLsbD 2 = true
      · have runs : RunsInstruction s := ⟨halted, nmi, noIrq⟩
        rcases runInstruction_cases s with ⟨t, ht, -⟩ | ⟨op, u, illegal, hf⟩
        · exact .inl ⟨rfl, answers ((cpuStep_of_runs runs).trans ht)⟩
        · exact .inr (.inl ⟨rfl, op, _, illegal, (cpuStep_of_runs runs).trans hf⟩)
      · obtain ⟨irq, unmasked⟩ := not_or.1 noIrq
        exact .inl ⟨rfl, answers
          (cpuStep_of_irq halted nmi (eq_true_of_ne_false irq) (eq_false_of_ne_true unmasked))⟩

/-! ### Interrupts -/

/-- An entry sets I and leaves both latches (R271). -/
theorem interruptEntry_cpu {v : Word} (hv : v = nmiVector ∨ v = irqVector) (s : State) :
    (interruptEntry v s).cpu.nmiPending = s.cpu.nmiPending ∧ (interruptEntry v s).cpu.irqPending = s.cpu.irqPending ∧
      (interruptEntry v s).cpu.p.getLsbD 2 = true := by
  rw [interruptEntry_eq hv]
  exact ⟨rfl, rfl, getLsbD_put .i true s.cpu.p 2 (by decide)⟩

/-- Settles O7: each clause is one case of the CPU step; an instruction keeps the IRQ latch. -/
theorem interruptArbitration : Obligations.InterruptArbitration := by
  intro s running
  refine ⟨fun nmi => ?nmi, fun noNmi irq unmasked => ?irq, fun noNmi noIrq => ?runs⟩
  case nmi =>
    obtain ⟨nmiKept, irqKept, masks⟩ := interruptEntry_cpu (.inl rfl) (s.setNmiPending false)
    exact ⟨_, cpuStep_of_nmi running nmi, rfl, nmiKept, irqKept, masks⟩
  case irq =>
    obtain ⟨-, irqKept, masks⟩ := interruptEntry_cpu (.inr rfl) (s.setIrqPending false)
    exact ⟨_, cpuStep_of_irq running noNmi irq unmasked, rfl, irqKept, masks⟩
  case runs =>
    have runs := cpuStep_of_runs ⟨running, noNmi, noIrq⟩
    refine ⟨runs, fun t ht => ?_⟩
    rw [runs] at ht
    rcases runInstruction_cases s with ⟨t', ht', kept⟩ | ⟨op, u, -, hf⟩
    · obtain rfl := Host.Outcome.next.inj (ht.symm.trans ht')
      exact kept.irqPending
    · cases ht.symm.trans hf

/-- Settles O8: the entry is the shared one of BRK with PC and the status byte of an interrupt. -/
theorem interruptEntrySavesPcAndStatus : Obligations.InterruptEntrySavesPcAndStatus := by
  intro s vector hv hw
  obtain ⟨inCart, notLast⟩ : 0x4020 ≤ vector.toNat ∧ vector.toNat < 0xFFFF := by
    rcases hv with rfl | rfl <;> decide
  exact ⟨_, _, _, bitsChanged_put .i true s.cpu.p, bitsChanged_statusPushedByInterrupt s.cpu.p,
    frame_cells hw s.cpu.sp s.cpu.pc _, takeInterrupt_reads inCart notLast _ _ s,
    vectorReads_plain inCart notLast rfl⟩

end Sys2Proof.Machine
end

section
/-! PROOFS. Every step keeps the PPU's position and sprite list and the controllers in range, and the lockstep of dots and
cycles (10_state.md R47, R48; 60_exceptions.md R286). -/

namespace Sys2Proof.Machine

/-- The PPU's part of the ranges (R47, R300, R339). -/
structure PpuInRange (p : Ppu) : Prop where
  scanline : p.scanline ≤ 261
  dot      : p.dot ≤ 340
  sprites  : p.lineSprites.length ≤ 8
  indices  : ∀ sp ∈ p.lineSprites, sp.index < 64

/-- The dots a PPU has run, by its position and frame count (R286). -/
def Ppu.dotCount (p : Ppu) : Nat := p.scanline * 341 + p.dot + 89342 * p.frame

theorem State.rangesSound_iff {s : State} : s.RangesSound ↔ PpuInRange s.ppu ∧ s.PadsSound :=
  ⟨fun h => ⟨⟨h.scanline, h.dot, h.sprites, h.indices⟩, h.pad1, h.pad2⟩,
   fun ⟨p, h1, h2⟩ => ⟨p.scanline, p.dot, p.sprites, p.indices, h1, h2⟩⟩

theorem State.lockstep_iff {s : State} : s.Lockstep ↔ s.ppu.dotCount = 3 * s.cpu.cycles := Iff.rfl

/-! ### The CPU step -/

theorem Fetched.After.pads {s u : State} (h : Fetched.After s u) (hs : s.PadsSound) : u.PadsSound := by
  obtain ⟨t, ht, hu⟩ := h.reads
  rw [hu]
  exact ht.pads hs

theorem Effect.pads {s t : State} (h : Effect s t) (hs : s.PadsSound) : t.PadsSound := by
  cases h with
  | read u c hu _ => exact hu.pads hs
  | write u a v c hu _ => exact memWrite_pads a v (hu.pads hs)
  | stack m d c _ _ _ => exact hs

theorem CpuStepped.pads {s t : State} (h : CpuStepped s t) (hs : s.PadsSound) : t.PadsSound := by
  cases h with
  | entry v hv c _ =>
    rw [interruptEntry_eq hv]
    exact hs
  | run i u t hu ht => exact (exec_effect ht).pads (hu.pads hs)

theorem WriteKept.inRange {s t : State} (h : WriteKept s t) (hs : PpuInRange s.ppu) : PpuInRange t.ppu :=
  ⟨h.scanline ▸ hs.scanline, h.dot ▸ hs.dot, h.lineSprites ▸ hs.sprites, h.lineSprites ▸ hs.indices⟩

theorem WriteKept.dotCount {s t : State} (h : WriteKept s t) : t.ppu.dotCount = s.ppu.dotCount := by
  rw [Ppu.dotCount, h.scanline, h.dot, h.frame, Ppu.dotCount]

/-! ### Ticks -/

theorem PpuInRange.tick {p : Ppu} (cfg : Params) (c : Cart) (h : PpuInRange p) : PpuInRange (p.tick cfg c).1 := by
  obtain ⟨scanline, dot, -⟩ := p.advancePosition_position h.scanline h.dot
  refine ⟨by rwa [Ppu.tick_scanline], by rwa [Ppu.tick_dot], ?_, ?_⟩ <;>
    rcases p.tick_lineSprites cfg c with kept | emptied | ⟨q, s, selected⟩
  · rw [kept]; exact h.sprites
  · rw [emptied]; exact Nat.zero_le _
  · rw [selected]; exact q.evaluateSprites_length s
  · rw [kept]; exact h.indices
  · rw [emptied]; exact nofun
  · rw [selected]; exact q.evaluateSprites_index s

/-- A tick is one dot, across the ends of lines and frames too (R301). -/
theorem PpuInRange.dotCount_tick {p : Ppu} (cfg : Params) (c : Cart) (h : PpuInRange p) :
    (p.tick cfg c).1.dotCount = p.dotCount + 1 := by
  obtain ⟨-, -, oneDot⟩ := p.advancePosition_position h.scanline h.dot
  rwa [Ppu.dotCount, Ppu.tick_scanline, Ppu.tick_dot, Ppu.tick_frame]

theorem PpuInRange.ticks {p : Ppu} (cfg : Params) (c : Cart) (n : Nat) (h : PpuInRange p) :
    PpuInRange (p.ticks cfg c n).1 :=
  Ppu.ticks_induct (motive := fun r => PpuInRange r.1) (fun _ c h => h.tick _ c) n h

theorem PpuInRange.dotCount_ticks {p : Ppu} (cfg : Params) (c : Cart) (n : Nat) (h : PpuInRange p) :
    (p.ticks cfg c n).1.dotCount = p.dotCount + n := by
  induction n generalizing p c with
  | zero => rw [Ppu.ticks, Nat.add_zero]
  | succ n ih => rw [Ppu.ticks_succ, ih _ (h.tick cfg c), h.dotCount_tick, Nat.add_right_comm, Nat.add_assoc]

/-! ### The step -/

/-- The catch-up keeps the ranges, and runs three dots for each cycle. -/
theorem catchUp_inRange {s : State} (n : Nat) (h : PpuInRange s.ppu) :
    PpuInRange (catchUp n s).ppu ∧ (catchUp n s).ppu.dotCount = s.ppu.dotCount + 3 * n := by
  have ticked := h.ticks s.params s.cart (3 * n)
  rw [catchUp_eq]
  exact ⟨⟨ticked.scanline, ticked.dot, ticked.sprites, ticked.indices⟩, h.dotCount_ticks s.params s.cart (3 * n)⟩

theorem catchUp_pads {s : State} (n : Nat) (h : s.PadsSound) : (catchUp n s).PadsSound := by
  rw [catchUp_eq]
  exact h

/-- After a reset the PPU is at (0, 21) and 7 cycles are counted, whatever the state before it (R380). -/
theorem hostReset_inStep (s : State) : (hostReset s).RangesSound ∧ (hostReset s).Lockstep := by
  rw [hostReset_eq, Ppu.clearedAt_ticks _ _ 21 (n := 0) (by decide)]
  exact ⟨⟨Nat.zero_le _, (by decide : 21 ≤ 340), Nat.zero_le _, nofun, Nat.zero_le _, Nat.zero_le _⟩,
    by simp [State.Lockstep, Ppu.clearedAt, Cpu.afterReset]⟩

/-- A CPU step from a boundary, with the dots of its cycles, keeps the ranges and the lockstep. -/
theorem CpuStepped.catchUp_inStep {b u : State} (h : CpuStepped b u) (hb : b.RangesSound) :
    (catchUp (u.cpu.cycles - b.cpu.cycles) u).RangesSound ∧
      (b.Lockstep → (catchUp (u.cpu.cycles - b.cpu.cycles) u).Lockstep) := by
  obtain ⟨ppu, pads⟩ := State.rangesSound_iff.1 hb
  have ppu' : PpuInRange u.ppu := h.writeKept.inRange ppu
  obtain ⟨inRange, dots⟩ := catchUp_inRange (u.cpu.cycles - b.cpu.cycles) ppu'
  refine ⟨State.rangesSound_iff.2 ⟨inRange, catchUp_pads _ (h.pads pads)⟩, fun lockstep => ?_⟩
  have kept : u.ppu.dotCount = b.ppu.dotCount := h.writeKept.dotCount
  have cycles : (catchUp (u.cpu.cycles - b.cpu.cycles) u).cpu.cycles = u.cpu.cycles := by rw [catchUp_eq]
  have grows := h.cycles
  rw [State.lockstep_iff] at lockstep ⊢
  rw [dots, kept, lockstep, cycles]
  omega

/-- Settles O58: the boundary's inputs and the CPU step touch neither the PPU's position nor its sprites, the catch-up runs
three dots for each cycle, and a reset sets both counts anew. -/
theorem stepKeepsRangesAndLockstep : Obligations.StepKeepsRangesAndLockstep := by
  intro s t hs h
  rcases step_cases h with ⟨env, later, u, hu, rfl⟩ | ⟨later, rfl⟩
  · have stepped := cpuStep_cases hu
    rw [applyEnv_eq] at stepped
    exact stepped.catchUp_inStep ⟨hs.scanline, hs.dot, hs.sprites, hs.indices, hs.pad1, hs.pad2⟩
  · obtain ⟨ranges, lockstep⟩ := hostReset_inStep { s with inputs := later }
    exact ⟨ranges, fun _ => lockstep⟩

end Sys2Proof.Machine
end

section
/-! PROOFS. The instruction decoded at PC, the halt of an illegal opcode, and the order of a system step (30_encoding.md
R102; 60_exceptions.md R250, R252, R285, R290; 70_reset_and_hazards.md R382). -/

namespace Sys2Proof.Machine

open Laws

theorem add_ofNat_succ (a : Word) (k : Nat) : a + BitVec.ofNat 16 (k + 1) = a + 1 + BitVec.ofNat 16 k := by
  rw [Nat.add_comm, BitVec.ofNat_add, ← BitVec.add_assoc]
  rfl

/-- The bytes at `a` begin with the one at `a`. -/
theorem bytesAt_succ (a : Word) (n : Nat) (s : State) : bytesAt a (n + 1) s = peek a s :: bytesAt (a + 1) n s := by
  rw [bytesAt, List.range_succ_eq_map, List.map_cons, List.map_map, BitVec.add_zero]
  exact congrArg _ (List.map_congr_left fun k _ => congrArg (peek · s) (add_ofNat_succ a k))

/-- The bytes at an address do not depend on PC. -/
theorem bytesAt_setPC (a w : Word) (n : Nat) (s : State) : bytesAt a n (s.setPC w) = bytesAt a n s :=
  List.map_congr_left fun _ _ => peek_withCpu _ s _

/-- Fetching bytes of plain memory moves PC past them and changes nothing else (R90, R102). -/
theorem fetches_bytesAt {s : State} {n : Nat} (h : ∀ k < n, plainMemory (s.cpu.pc + BitVec.ofNat 16 k) s) :
    Fetches s (bytesAt s.cpu.pc n s) (s.setPC (s.cpu.pc + BitVec.ofNat 16 n)) := by
  induction n generalizing s with
  | zero =>
    rw [BitVec.add_zero]
    exact rfl
  | succ n ih =>
    have first : plainMemory s.cpu.pc s := by simpa using h 0 (Nat.succ_pos n)
    have rest := ih (s := s.setPC (s.cpu.pc + 1)) fun k hk => by
      have := h (k + 1) (Nat.succ_lt_succ hk)
      rwa [add_ofNat_succ] at this
    rw [bytesAt_succ, fetches_cons, fetchByte, memRead_plain first, add_ofNat_succ]
    rw [bytesAt_setPC] at rest
    exact ⟨rfl, rest⟩

/-- Settles O5: bytes of plain memory that decode to `i` are its encoding, and a fetch reads an encoding. -/
theorem stepRunsTheDecodedInstruction : Obligations.StepRunsTheDecodedInstruction := by
  intro s b hb runs
  refine ⟨fun i plain decodes => ?_, fun i u t hu ht => ?_⟩
  · have encoded : bytesAt b.cpu.pc i.length b = encode i := by
      rw [(decodeInvertsEncode _ _ _).1 decodes, List.append_nil]
    have fetched := fetches_bytesAt plain
    rw [encoded] at fetched
    rw [step_of_runs hb runs, runInstruction_of_instr (fetch_instr_iff_fetches.2 fetched)]
  · rw [step_of_runs hb runs, runInstruction_of_instr (fetch_instr_iff_fetches.2 hu), ht]
    rfl

/-- Settles O6: the fetch of an illegal byte is the fault with the halted state, which has no step but the reset. -/
theorem illegalOpcodeHaltsUntilReset : Obligations.IllegalOpcodeHaltsUntilReset := by
  intro s b op hb runs hpeek illegal
  have fetched := fetch_illegal_iff.2 ⟨illegal, Prod.ext hpeek rfl⟩
  have halts : (halt b.cpu.pc op (memRead b.cpu.pc b).2).cpu.halted = some ⟨b.cpu.pc, op⟩ := rfl
  refine ⟨halt b.cpu.pc op (memRead b.cpu.pc b).2, ?_, ?_, memRead_effects _ b, cpuStep_of_halted halts,
    fun env => systemStep_of_halted env halts, fun later => ⟨_, step_of_reset rfl, ?_⟩⟩
  · rw [step_of_runs hb runs, runInstruction_of_illegal fetched]
    rfl
  · rw [halt, memRead_cpu]
  · rw [hostReset_eq]
    rfl

/-- Settles O55: each clause is one case of a step or of a system step, with the boundary's inputs (`applyEnv_eq`) and the
catch-up (`catchUp_eq`) as one update each. -/
theorem systemStepOrder : Obligations.SystemStepOrder := by
  intro env s
  refine ⟨step_of_noInputs, fun _ => step_of_boundary, fun _ => step_of_reset, fun _ => systemStep_of_halted env,
    fun running => ⟨fun t ht => ?_, fun f hf => ?_⟩⟩
  · rw [systemStep_of_running env running, applyEnv_eq, ht]
    exact congrArg Host.Outcome.next (catchUp_eq _ t)
  · rw [systemStep_of_running env running, applyEnv_eq, hf]
    rfl

end Sys2Proof.Machine
end

section
/-! PROOFS. Bit fields by numbers and by bits: what the PPU's registers, scroll counters and fetch addresses are made of
(00_scope.md R11; 61_platform_devices.md R320 to R326, R335, R338, R342). -/

namespace Sys2Proof.Machine

/-- A field written with bits of `u` is a change of the field's bits and of no other. -/
theorem bitsChanged_setField {n k m : Nat} (v : BitVec n) {at0 : Nat} (h : at0 + k ≤ n) {f : BitVec k} {u : BitVec m}
    {from0 : Nat} (hf : ∀ j < k, f.getLsbD j = u.getLsbD (from0 + j)) :
    BitsChanged v (setField v at0 f) (fieldBits at0 k u from0) := by
  refine ⟨fun c hc => ?_, fun i hi => ?_⟩
  · obtain ⟨j, hj, rfl⟩ := List.mem_map.1 hc
    have hj := List.mem_range.1 hj
    rw [getLsbD_setField _ _ _ _ (by omega), if_pos (by omega), Nat.add_sub_cancel_left, hf j hj]
  · have outside : ¬ (at0 ≤ i ∧ i < at0 + k) := fun inside =>
      hi (at0 + (i - at0), u.getLsbD (from0 + (i - at0))) (List.mem_map.2 ⟨_, List.mem_range.2 (by omega), rfl⟩) (by omega)
    by_cases hn : i < n
    · rw [getLsbD_setField _ _ _ _ hn, if_neg outside]
    · rw [BitVec.getLsbD_of_ge _ _ (by omega), BitVec.getLsbD_of_ge _ _ (by omega)]

/-- The field taken from `k` bits of `u`. -/
theorem bitsChanged_setField_extract {n k m : Nat} (v : BitVec n) {at0 : Nat} (h : at0 + k ≤ n) (u : BitVec m)
    (from0 : Nat) : BitsChanged v (setField v at0 (u.extractLsb' from0 k)) (fieldBits at0 k u from0) :=
  bitsChanged_setField v h fun j hj => by rw [BitVec.getLsbD_extractLsb', decide_eq_true hj, Bool.true_and]

/-- Bits of different fields stand at different positions. -/
theorem fieldBits_disjoint {n m a k b l : Nat} {u : BitVec n} {w : BitVec m} {from0 from1 : Nat}
    (h : a + k ≤ b ∨ b + l ≤ a) : ∀ c ∈ fieldBits a k u from0, ∀ e ∈ fieldBits b l w from1, e.1 ≠ c.1 := by
  intro c hc e he
  obtain ⟨i, hi, rfl⟩ := List.mem_map.1 hc
  obtain ⟨j, hj, rfl⟩ := List.mem_map.1 he
  have := List.mem_range.1 hi
  have := List.mem_range.1 hj
  dsimp only
  omega

/-- A written field as a number: the bits below it, the field, the bits above it. -/
theorem toNat_setField {n k : Nat} (v : BitVec n) {at0 : Nat} (h : at0 + k ≤ n) (f : BitVec k) :
    (setField v at0 f).toNat =
      2 ^ at0 * (2 ^ k * (v.toNat / 2 ^ (at0 + k)) + f.toNat) + v.toNat % 2 ^ at0 := by
  refine Nat.eq_of_testBit_eq fun i => ?_
  rw [Nat.testBit_two_pow_mul_add _ (Nat.mod_lt _ (Nat.two_pow_pos _)), Nat.testBit_two_pow_mul_add _ f.isLt,
    Nat.testBit_mod_two_pow, Nat.testBit_div_two_pow, BitVec.testBit_toNat, BitVec.testBit_toNat, BitVec.testBit_toNat]
  by_cases hn : i < n
  · rw [getLsbD_setField _ _ _ _ hn]
    by_cases hlow : i < at0
    · simp [hlow, Nat.not_le.2 hlow]
    · by_cases hmid : i - at0 < k
      · simp [hlow, hmid, Nat.not_lt.1 hlow, show i < at0 + k by omega]
      · simp [hlow, hmid, show ¬ i < at0 + k by omega, show i - at0 - k + (at0 + k) = i by omega, BitVec.testBit_toNat]
  · simp [show ¬ i < at0 by omega, show ¬ i - at0 < k by omega, BitVec.getLsbD_of_ge _ _ (Nat.not_lt.1 hn),
      show i - at0 - k + (at0 + k) = i by omega, BitVec.testBit_toNat]

/-- Joined bit strings as a number. -/
theorem toNat_append_add {m n : Nat} (x : BitVec m) (y : BitVec n) : (x ++ y).toNat = x.toNat * 2 ^ n + y.toNat := by
  rw [BitVec.toNat_append, ← Nat.shiftLeft_add_eq_or_of_lt y.isLt, Nat.shiftLeft_eq]

theorem toNat_ofBool_eq (b : Bool) : (BitVec.ofBool b).toNat = bitNat b := by cases b <;> rfl

/-- A bit of a number, as a digit. -/
theorem bitNat_getLsbD {n : Nat} (v : BitVec n) (i : Nat) : bitNat (v.getLsbD i) = v.toNat / 2 ^ i % 2 := by
  rw [← BitVec.testBit_toNat, Nat.testBit_eq_decide_div_mod_eq, bitNat]
  split <;> simp_all

theorem toNat_extract {n : Nat} (v : BitVec n) (from0 k : Nat) :
    (v.extractLsb' from0 k).toNat = v.toNat / 2 ^ from0 % 2 ^ k := by
  rw [BitVec.extractLsb'_toNat, Nat.shiftRight_eq_div_pow]

theorem toNat_coarseX (v : BitVec 15) : (coarseX v).toNat = v.toNat % 32 := by
  rw [coarseX, toNat_extract, pow_zero, Nat.div_one]
  rfl

theorem toNat_coarseY (v : BitVec 15) : (coarseY v).toNat = v.toNat / 32 % 32 := toNat_extract v 5 5

theorem toNat_nametableX (v : BitVec 15) : (nametableX v).toNat = v.toNat / 1024 % 2 := toNat_extract v 10 1

theorem toNat_nametableY (v : BitVec 15) : (nametableY v).toNat = v.toNat / 2048 % 2 := toNat_extract v 11 1

theorem toNat_fineY (v : BitVec 15) : (fineY v).toNat = v.toNat / 4096 := by
  rw [fineY, toNat_extract]
  exact Nat.mod_eq_of_lt (by have := v.isLt; omega)

end Sys2Proof.Machine
end

section
/-! PROOFS. Stores that read back, and the PPU's registers, OAM port and DMA through the bus (20_memory.md R67, R80;
61_platform_devices.md R320 to R330, R361, R362). -/

namespace Sys2Proof.Machine

/-! ### Stores of plain bytes -/

theorem peek_memWrite_ram {a : Word} (h : a.toNat < 0x2000) (v : Byte) {s : State} (hs : Memory.wf s.ram) :
    peek a (memWrite a v s) = v := by
  rw [memWrite_ram h, peek, memRead_ram h]
  exact Memory.read_write_same hs _ _

theorem peek_plainCart {a : Word} (h : 0x4020 ≤ a.toNat) {s : State} {c : PlainCart} (hc : s.cart = .plain c) :
    peek a s = c.readPrg a := by
  rw [peek, memRead_plainCart h hc]

theorem memWrite_plainCart {a : Word} (h : 0x4020 ≤ a.toNat) (v : Byte) {s : State} {c : PlainCart}
    (hc : s.cart = .plain c) : memWrite a v s = { s with cart := .plain (c.writePrg a v) } := by
  rw [memWrite_cart h, hc]
  rfl

/-- A write that leaves the no-bank-switching cartridge as it is leaves the state as it is. -/
theorem memWrite_plainCart_same {a : Word} (h : 0x4020 ≤ a.toNat) {v : Byte} {s : State} {c : PlainCart}
    (hc : s.cart = .plain c) (hw : c.writePrg a v = c) : memWrite a v s = s := by
  rw [memWrite_plainCart h v hc, hw, ← hc]

/-- Outside the RAM window a PRG write is ignored (R362). -/
theorem PlainCart.writePrg_outside (c : PlainCart) {a : Word} (h : a.toNat < 0x6000 ∨ 0x8000 ≤ a.toNat) (v : Byte) :
    c.writePrg a v = c := if_neg (by omega)

/-- Without PRG RAM every PRG write is ignored (R362). -/
theorem PlainCart.writePrg_noRam {c : PlainCart} (hram : c.prgRam = none) (a : Word) (v : Byte) :
    c.writePrg a v = c := by
  rw [PlainCart.writePrg, PlainCart.prgRamWrite, hram, ite_self]

/-- The empty space reads 0 (R361). -/
theorem PlainCart.readPrg_empty (c : PlainCart) {a : Word} (h : a.toNat < 0x6000) : c.readPrg a = 0 := by
  rw [PlainCart.readPrg, if_neg (by omega), if_neg (by omega), Config.emptyCartByte]

/-- The RAM window without RAM reads 0 (R361). -/
theorem PlainCart.readPrg_noRam {c : PlainCart} (hram : c.prgRam = none) {a : Word} (h : a.toNat < 0x8000) :
    c.readPrg a = 0 := by
  rw [PlainCart.readPrg, if_neg (by omega), hram]
  exact ite_self _

/-- A byte written to PRG RAM reads back (R361, R362). -/
theorem PlainCart.readPrg_writePrg_same {c : PlainCart} {m : Memory} (hram : c.prgRam = some m) (hm : Memory.wf m)
    {a : Word} (hlo : 0x6000 ≤ a.toNat) (hhi : a.toNat < 0x8000) (v : Byte) : (c.writePrg a v).readPrg a = v := by
  rw [PlainCart.writePrg, if_pos (by omega), PlainCart.prgRamWrite, hram, PlainCart.readPrg, if_neg (by omega),
    if_pos hlo, Nat.mod_eq_of_lt (by omega)]
  exact Memory.read_write_same hm _ _

/-- Settles O34: RAM and PRG RAM read back what was written; elsewhere the cartridge ignores the write. -/
theorem storedBytesReadBack : Obligations.StoredBytesReadBack := by
  intro a v s sound
  refine ⟨fun h => peek_memWrite_ram h v sound.ram_wf, fun c hc => ⟨?ram, ?noRam, ?rom, ?empty⟩⟩
  case ram =>
    intro hlo hhi present
    obtain ⟨m, hm⟩ := Option.ne_none_iff_exists'.1 present
    rw [memWrite_plainCart (by omega) v hc, peek_plainCart (by omega) rfl]
    exact PlainCart.readPrg_writePrg_same hm ((sound.cart_sound c hc).prgRam_wf m hm).1 hlo hhi v
  case noRam =>
    intro hlo hhi absent
    rw [peek_plainCart (by omega) hc]
    exact ⟨memWrite_plainCart_same (by omega) hc (PlainCart.writePrg_noRam absent a v),
      PlainCart.readPrg_noRam absent hhi⟩
  case rom => exact fun h => memWrite_plainCart_same (by omega) hc (c.writePrg_outside (.inr h) v)
  case empty =>
    intro hlo hhi
    rw [peek_plainCart hlo hc]
    exact ⟨memWrite_plainCart_same hlo hc (c.writePrg_outside (.inl hhi) v), c.readPrg_empty hhi⟩

/-! ### The registers -/

/-- Settles O37: each register is written through the bus by its own operation; the write-only ones read 0. -/
theorem controlMaskAndOamAddressWrites : Obligations.ControlMaskAndOamAddressWrites := by
  intro a val s
  refine ⟨fun h => ⟨_, bitsChanged_setField_extract s.ppu.t (by decide) val 0, ?ctrl⟩,
    fun h => memWrite_ppu h (r := .ppumask) rfl val s, fun h => memWrite_ppu h (r := .oamaddr) rfl val s, ?reads,
    fun h => memWrite_ppu h (r := .ppustatus) rfl val s⟩
  case ctrl =>
    rw [memWrite_ppu h (r := .ppuctrl) rfl, ppuRegWrite, Ppu.writeCtrl]
    simp only [beq_true, beq_false]
  case reads =>
    simp only [List.forall_mem_cons]
    exact ⟨fun h => memRead_ppu h (r := .ppuctrl) rfl s, fun h => memRead_ppu h (r := .ppumask) rfl s,
      fun h => memRead_ppu h (r := .oamaddr) rfl s, fun h => memRead_ppu h (r := .ppuscroll) rfl s,
      fun h => memRead_ppu h (r := .ppuaddr) rfl s, List.forall_mem_nil _⟩

theorem memRead_status {a : Word} (h : isPpuAddress 2 a) (s : State) :
    memRead a s = (s.ppu.statusByte, { s with ppu := { s.ppu with vblank := false, w := false } }) :=
  memRead_ppu h (r := .ppustatus) rfl s

/-- The status byte as a number (R322). -/
theorem Ppu.toNat_statusByte (p : Ppu) :
    p.statusByte.toNat = 128 * bitNat p.vblank + 64 * bitNat p.sprite0Hit + 32 * bitNat p.spriteOverflow := by
  simp only [Ppu.statusByte, toNat_append_add, toNat_ofBool_eq, BitVec.ofNat_eq_ofNat, BitVec.toNat_ofNat]
  omega

theorem bitNat_lt (b : Bool) : bitNat b < 2 := by cases b <;> decide

/-- Settles O38: the byte's three flags are its bits 7 to 5, and after the read the first is clear. -/
theorem statusReadClearsVblankAndLatch : Obligations.StatusReadClearsVblankAndLatch := by
  intro a s h
  simp only [peek, memRead_status h, Ppu.toNat_statusByte, true_and]
  have hit := bitNat_lt s.ppu.sprite0Hit
  have overflow := bitNat_lt s.ppu.spriteOverflow
  have cleared : bitNat false = 0 := rfl
  omega

theorem extract_low_three (val : Byte) : val.extractLsb' 0 3 = BitVec.ofNat 3 (val.toNat % 8) := by
  apply BitVec.eq_of_toNat_eq
  rw [toNat_extract, BitVec.toNat_ofNat, pow_zero, Nat.div_one]
  exact (Nat.mod_mod _ _).symm

/-- The bit above the six of a first PPUADDR write is cleared (R326). -/
theorem bitsChanged_firstAddrWrite (t : BitVec 15) (val : Byte) :
    BitsChanged t (setField (setField t 8 (val.extractLsb' 0 6)) 14 (0 : BitVec 1))
      (fieldBits 8 6 val 0 ++ [(14, false)]) := by
  have above : fieldBits 14 1 (0 : BitVec 1) 0 = [(14, false)] := by decide
  rw [← above]
  exact (bitsChanged_setField_extract t (by decide) val 0).append
    (bitsChanged_setField _ (by decide) fun j _ => by rw [Nat.zero_add]) (fieldBits_disjoint (.inl (by decide)))

/-- Settles O39: each write of a two-write register is one or two fields of `t`, chosen by the latch. -/
theorem scrollAndAddressWriteTwice : Obligations.ScrollAndAddressWriteTwice := by
  intro a val s
  refine ⟨fun h hw => ⟨_, bitsChanged_setField_extract s.ppu.t (by decide) val 3, ?_⟩,
    fun h hw => ⟨_, (bitsChanged_setField_extract s.ppu.t (by decide) val 3).append
      (bitsChanged_setField_extract _ (by decide) val 0) (fieldBits_disjoint (.inl (by decide))), ?_⟩,
    fun h hw => ⟨_, bitsChanged_firstAddrWrite s.ppu.t val, ?_⟩,
    fun h hw => ⟨_, bitsChanged_setField (from0 := 0) s.ppu.t (by decide) (fun j _ => by rw [Nat.zero_add]), ?_⟩⟩
  · rw [memWrite_ppu h (r := .ppuscroll) rfl, ppuRegWrite, Ppu.writeScroll, if_neg (by simp [hw]), extract_low_three]
  · rw [memWrite_ppu h (r := .ppuscroll) rfl, ppuRegWrite, Ppu.writeScroll, if_pos hw]
  · rw [memWrite_ppu h (r := .ppuaddr) rfl, ppuRegWrite, Ppu.writeAddr, if_neg (by simp [hw])]
  · rw [memWrite_ppu h (r := .ppuaddr) rfl, ppuRegWrite, Ppu.writeAddr, if_pos hw]

/-! ### PPUDATA -/

theorem ppuRead_cart_kept (cfg : Params) (c : Cart) (p : Ppu) {a : PpuAddr} (h : 0x2000 ≤ a.toNat) :
    (ppuRead cfg c p a).2 = c := by
  rw [ppuRead, if_neg (by omega)]
  split <;> rfl

/-- A PPUDATA read in the palette: the byte at once, the buffer from the nametable byte below; both lie in the PPU, so the
cartridge is kept (R327). -/
theorem Ppu.readData_palette (cfg : Params) (c : Cart) (p : Ppu) (h : 0x3F00 ≤ p.dataAddr.toNat) :
    p.readData cfg c = ((ppuRead cfg c p p.dataAddr).1,
      { p with readBuffer := (ppuRead cfg c p (p.dataAddr - 0x1000)).1, v := p.nextV }, c) := by
  have below : 0x2000 ≤ (p.dataAddr - 0x1000).toNat := by bv_omega
  rw [Ppu.readData, if_neg (by omega)]
  simp only [ppuRead_cart_kept cfg c p (a := p.dataAddr) (by omega), ppuRead_cart_kept cfg c p below]

/-- Settles O40: PPUDATA at the address `v` modulo 0x4000, and `v` moved by the increment. -/
theorem dataPortReadsAndWrites : Obligations.DataPortReadsAndWrites := by
  intro a val s pa v' h hpa hv
  obtain rfl : pa = s.ppu.dataAddr := BitVec.eq_of_toNat_eq (by rw [hpa, Ppu.dataAddr, BitVec.toNat_setWidth])
  obtain rfl : v' = s.ppu.nextV := by
    apply BitVec.eq_of_toNat_eq
    rw [hv, Ppu.nextV, BitVec.toNat_add]
    split <;> rfl
  refine ⟨fun low => ?_, fun high => ?_, memWrite_ppu h (r := .ppudata) rfl val s⟩
  · rw [memRead_ppu h (r := .ppudata) rfl, ppuRegRead, Ppu.readData, if_pos low]
  · rw [memRead_ppu h (r := .ppudata) rfl, ppuRegRead, Ppu.readData_palette _ _ _ high]

/-! ### The OAM port and the DMA -/

/-- The state after the first `n` bytes of a DMA (R330). -/
def dmaState (page : Byte) (s : State) (n : Nat) : State := (List.range n).foldl (dmaByte page) s

theorem dmaState_succ (page : Byte) (s : State) (n : Nat) :
    dmaState page s (n + 1) = dmaByte page (dmaState page s n) n := by
  rw [dmaState, List.range_succ, List.foldl_concat, ← dmaState]

theorem memWrite_dma (page : Byte) (s : State) :
    memWrite 0x4014 page s = (dmaState page s 256).addCycles s.params.dmaCycles := memWrite_oamDma page s

/-- Byte `i` of a page (R330). -/
theorem dmaAddr_eq (page : Byte) {i : Nat} (hi : i < 256) :
    w16 page (BitVec.ofNat 8 i) = BitVec.ofNat 16 (256 * page.toNat + i) := by
  have := page.isLt
  apply BitVec.eq_of_toNat_eq
  rw [toNat_w16, BitVec.toNat_ofNat, BitVec.toNat_ofNat]
  omega

theorem toNat_dmaAddr (page : Byte) {i : Nat} (hi : i < 256) :
    (BitVec.ofNat 16 (256 * page.toNat + i)).toNat = 256 * page.toNat + i := by
  have := page.isLt
  rw [BitVec.toNat_ofNat]
  exact Nat.mod_eq_of_lt (by omega)

theorem dmaState_oamAddr (page : Byte) (s : State) (n : Nat) : (dmaState page s n).ppu.oamAddr = s.ppu.oamAddr :=
  List.foldlRecOn (List.range n) (dmaByte page) (motive := fun t => t.ppu.oamAddr = s.ppu.oamAddr) rfl
    fun t ht i _ => (congrArg (·.ppu.oamAddr) (memRead_effects (w16 page (BitVec.ofNat 8 i)) t)).trans ht

theorem dmaByte_of_read {page b : Byte} {s t : State} {i : Nat}
    (h : memRead (w16 page (BitVec.ofNat 8 i)) s = (b, t)) :
    dmaByte page s i =
      { t with ppu := { t.ppu with oam := Memory.write t.ppu.oam ((t.ppu.oamAddr.toNat + i) % 256) b } } := by
  rw [dmaByte, h]

/-- A byte of plain memory lies in RAM or in the cartridge. -/
theorem memRead_plain_congr {a : Word} {s t : State} (ha : plainMemory a s) (hram : t.ram = s.ram)
    (hcart : t.cart = s.cart) : memRead a t = (peek a s, t) := by
  have plain : plainMemory a t := by rwa [plainMemory, State.plainCart, hcart]
  refine Prod.ext ?_ (memRead_plain plain)
  rcases ha with ha | ⟨ha, -⟩
  · rw [peek, memRead_ram ha, memRead_ram ha, hram]
  · rw [peek, memRead_cart ha, memRead_cart ha, hcart]

/-- The first `n` bytes of a page of plain memory, in OAM; nothing else is changed (R330). -/
theorem dmaState_plain {page : Byte} {s : State} (hoam : Memory.wf s.ppu.oam)
    (hpage : ∀ i < 256, plainMemory (BitVec.ofNat 16 (256 * page.toNat + i)) s) {n : Nat} (hn : n ≤ 256) :
    ∃ oam', Memory.wf oam' ∧
      (∀ i < n, Memory.read oam' ((s.ppu.oamAddr.toNat + i) % 256) = peek (BitVec.ofNat 16 (256 * page.toNat + i)) s) ∧
      dmaState page s n = { s with ppu := { s.ppu with oam := oam' } } := by
  induction n with
  | zero => exact ⟨s.ppu.oam, hoam, nofun, rfl⟩
  | succ n ih =>
    obtain ⟨oam', wf', copied, eq⟩ := ih (by omega)
    refine ⟨_, Memory.wf_write wf' ((s.ppu.oamAddr.toNat + n) % 256) (peek (BitVec.ofNat 16 (256 * page.toNat + n)) s),
      fun i hi => ?_, ?_⟩
    · rw [Memory.read_write wf']
      by_cases last : i = n
      · rw [last, if_pos rfl]
      · rw [if_neg (by omega), copied i (by omega)]
    · have read := memRead_plain_congr (t := dmaState page s n) (hpage n (by omega)) (by rw [eq]) (by rw [eq])
      rw [← dmaAddr_eq page (by omega), eq] at read
      rw [dmaState_succ, eq, dmaByte_of_read read, dmaAddr_eq page (by omega)]

/-- Settles O41: the port by its two register operations; a DMA is its states `dmaState`, from plain memory the page. -/
theorem oamPortAndDma : Obligations.OamPortAndDma := by
  refine ⟨fun a val s h hoam => ⟨memRead_ppu h (r := .oamdata) rfl s, _,
    CellsStored.single hoam s.ppu.oamAddr.toNat val, ?port⟩, fun page s => ⟨⟨dmaState page s, rfl, memWrite_dma page s,
    fun i hi => ⟨memRead_effects _ _, ?byte⟩⟩, fun plain hoam => ?page⟩⟩
  case port =>
    rw [memWrite_ppu h (r := .oamdata) rfl, ppuRegWrite, Ppu.writeOamData, add_one_eq_ofNat]
  case byte =>
    have kept := congrArg (·.ppu.oamAddr) (memRead_effects (BitVec.ofNat 16 (256 * page.toNat + i)) (dmaState page s i))
    dsimp only at kept
    rw [dmaState_succ, dmaByte, dmaAddr_eq page hi, kept, dmaState_oamAddr]
  case page =>
    have plainPage : ∀ i < 256, plainMemory (BitVec.ofNat 16 (256 * page.toNat + i)) s := fun i hi => by
      rw [plainMemory, toNat_dmaAddr page hi]
      exact plain.imp (fun low => by omega) fun high => ⟨by omega, high.2⟩
    obtain ⟨oam', wf', copied, eq⟩ := dmaState_plain hoam plainPage le_rfl
    exact ⟨oam', wf', copied, by rw [memWrite_dma, eq]; rfl⟩

end Sys2Proof.Machine
end

section
/-! PROOFS. The PPU's memories behind its address map, the controllers, and the cartridge's windows (20_memory.md R66,
R84; 61_platform_devices.md R311 to R315, R352, R353, R361 to R366). -/

namespace Sys2Proof.Machine

/-! ### The nametables -/

/-- The offset sees the address modulo the four pages. -/
theorem ntOffset_congr (cfg : Params) (mode : Mirroring) {a b : PpuAddr} (h : a.toNat % 4096 = b.toNat % 4096) :
    ntOffset cfg mode a = ntOffset cfg mode b := by
  rw [ntOffset, ntOffset, show a.toNat / 1024 % 4 = b.toNat / 1024 % 4 by omega,
    show a.toNat % 1024 = b.toNat % 1024 by omega]

/-- The mask of the mirror at 0x3000 clears bit 12 (R312). -/
theorem ntOffset_mask (cfg : Params) (mode : Mirroring) (a : PpuAddr) :
    ntOffset cfg mode (a &&& 0x2FFF) = ntOffset cfg mode a := by
  refine ntOffset_congr cfg mode ?_
  have low : a.toNat &&& 0x0FFF = a.toNat % 4096 := Nat.and_two_pow_sub_one_eq_mod a.toNat 12
  calc (a.toNat &&& 0x2FFF) % 2 ^ 12 = a.toNat % 4096 &&& 0x0FFF := Nat.and_mod_two_pow
    _ = a.toNat % 4096 % 4096 := Nat.and_two_pow_sub_one_eq_mod _ 12
    _ = a.toNat % 4096 := Nat.mod_mod _ _

theorem ppuRead_nametable (cfg : Params) (c : Cart) (p : Ppu) {a : PpuAddr} (hlo : 0x2000 ≤ a.toNat)
    (hhi : a.toNat ≤ 0x3EFF) : ppuRead cfg c p a = (Memory.read p.nt (ntOffset cfg c.mirroringMode a), c) := by
  rw [ppuRead, if_neg (by omega), if_pos hhi, ntOffset_mask]

theorem ppuWrite_nametable (cfg : Params) (c : Cart) (p : Ppu) {a : PpuAddr} (hlo : 0x2000 ≤ a.toNat)
    (hhi : a.toNat ≤ 0x3EFF) (v : Byte) :
    ppuWrite cfg c p a v = ({ p with nt := Memory.write p.nt (ntOffset cfg c.mirroringMode a) v }, c) := by
  rw [ppuWrite, if_neg (by omega), if_pos hhi, ntOffset_mask]

/-- Settles O42: the page by the mode's row; an address and its mirror have one offset. -/
theorem nametableMirroring : Obligations.NametableMirroring := by
  intro cfg a hlo hhi
  have table : a.toNat / 1024 % 4 = (a.toNat - 0x2000) / 1024 := by omega
  refine ⟨⟨?horizontal, ?vertical, ?single, ?four⟩, fun c p val => ?cells⟩
  case horizontal => rw [ntOffset, nametablePage]; split <;> omega
  case vertical => rw [ntOffset, nametablePage]; split <;> omega
  case single => rfl
  case four => rw [ntOffset, nametablePage, table]
  have mirror (high : a.toNat ≤ 0x2EFF) : (a + 0x1000).toNat = a.toNat + 0x1000 := by bv_omega
  have sameOffset (high : a.toNat ≤ 0x2EFF) :
      ntOffset cfg c.mirroringMode (a + 0x1000) = ntOffset cfg c.mirroringMode a :=
    ntOffset_congr cfg _ (by have := mirror high; omega)
  rw [ppuRead_nametable cfg c p hlo (by omega), ppuWrite_nametable cfg c p hlo (by omega)]
  refine ⟨rfl, fun high => ?_, fun wf => ⟨_, CellsStored.single wf _ val, rfl⟩, fun high => ?_⟩ <;>
    have moved := mirror high
  · rw [ppuRead_nametable cfg c p (by omega) (by omega), sameOffset high]
  · rw [ppuWrite_nametable cfg c p (by omega) (by omega), sameOffset high]

/-! ### The palette -/

theorem palIndex_eq (a : PpuAddr) : palIndex a = if a.toNat % 4 = 0 then a.toNat % 16 else a.toNat % 32 := by
  unfold palIndex
  dsimp only
  split <;> split <;> omega

theorem ppuRead_palette (cfg : Params) (c : Cart) (p : Ppu) {a : PpuAddr} (h : 0x3F00 ≤ a.toNat) :
    ppuRead cfg c p a = (Memory.read p.pal (palIndex a), c) := by
  rw [ppuRead, if_neg (by omega), if_neg (by omega)]

theorem ppuWrite_palette (cfg : Params) (c : Cart) (p : Ppu) {a : PpuAddr} (h : 0x3F00 ≤ a.toNat) (v : Byte) :
    ppuWrite cfg c p a v = ({ p with pal := Memory.write p.pal (palIndex a) (v &&& 0x3F) }, c) := by
  rw [ppuWrite, if_neg (by omega), if_neg (by omega)]

theorem toNat_and_63 (v : Byte) : (v &&& 0x3F).toNat = v.toNat % 64 := Nat.and_two_pow_sub_one_eq_mod v.toNat 6

/-- Settles O43: reads and writes from 0x3F00 on go by the palette index. -/
theorem paletteMirroring : Obligations.PaletteMirroring := by
  intro a b cfg c p val ha hb wf
  simp only [ppuWrite_palette cfg c p ha, ppuRead_palette cfg c _ ha, ppuRead_palette cfg c _ hb, true_and]
  refine ⟨palIndex_eq a, ?same, fun e => by rw [e], fun e => by rw [Memory.read_write_other _ _ e]⟩
  rw [Memory.read_write_same wf, toNat_and_63]

/-! ### The controllers -/

/-- A strobe of 1 reloads at the 0-to-1 transition only (R352). -/
theorem Controller.writeStrobe_true (c : Controller) :
    c.writeStrobe true = if c.strobe then c else ⟨c.buttons, c.buttons, 0, true⟩ := by
  obtain ⟨buttons, shift, index, strobe⟩ := c
  cases strobe <;> rfl

theorem Controller.writeStrobe_false (c : Controller) : c.writeStrobe false = { c with strobe := false } :=
  if_neg (by simp)

theorem Controller.read_high {c : Controller} (h : c.strobe = true) : c.read = (c.shift.getLsbD 0, c) := if_pos h

theorem Controller.read_low {c : Controller} (h : c.strobe = false) :
    c.read = if c.index < 8 then (c.shift.getLsbD c.index, { c with index := c.index + 1 }) else (true, c) :=
  if_neg (by simp [h])

/-- After a pulse, `k` reads leave the index at `k`, at most 8 (R353). -/
theorem Controller.iterate_read (buttons : Byte) (k : Nat) :
    (fun c => (Controller.read c).2)^[k] ⟨buttons, buttons, 0, false⟩ = ⟨buttons, buttons, min k 8, false⟩ := by
  induction k with
  | zero => rfl
  | succ k ih =>
    rw [Function.iterate_succ_apply', ih, Controller.read_next]
    simp only [Controller.mk.injEq, true_and, and_true]
    split <;> omega

/-- The `k`-th read after a pulse: button `k`, then 1 (R353). -/
theorem Controller.read_after_pulse (buttons : Byte) (k : Nat) :
    ((fun c => (Controller.read c).2)^[k] ⟨buttons, buttons, 0, false⟩).read.1 =
      if k < 8 then buttons.getLsbD k else true := by
  rw [Controller.iterate_read, Controller.read_low rfl]
  dsimp only
  split
  · rw [if_pos (by omega), Nat.min_eq_left (by omega)]
  · rw [if_neg (by omega)]

theorem memWrite_strobe_one {v : Byte} (h : v.getLsbD 0 = true) (s : State) :
    memWrite 0x4016 v s = { s with pad1 := s.pad1.writeStrobe true, pad2 := s.pad2.writeStrobe true } := by
  rw [memWrite_strobe, ← getLsbD_zero_eq, h]

theorem memWrite_strobe_zero {v : Byte} (h : v.getLsbD 0 = false) (s : State) :
    memWrite 0x4016 v s = { s with pad1 := s.pad1.writeStrobe false, pad2 := s.pad2.writeStrobe false } := by
  rw [memWrite_strobe, ← getLsbD_zero_eq, h]

theorem iterate_memRead_port1 (s : State) (k : Nat) :
    (fun t => (memRead 0x4016 t).2)^[k] s = { s with pad1 := (fun c => (Controller.read c).2)^[k] s.pad1 } := by
  induction k with
  | zero => rfl
  | succ k ih => rw [Function.iterate_succ_apply', ih, memRead_port1, Function.iterate_succ_apply']

theorem iterate_memRead_port2 (s : State) (k : Nat) :
    (fun t => (memRead 0x4017 t).2)^[k] s = { s with pad2 := (fun c => (Controller.read c).2)^[k] s.pad2 } := by
  induction k with
  | zero => rfl
  | succ k ih => rw [Function.iterate_succ_apply', ih, memRead_port2, Function.iterate_succ_apply']

theorem memRead_port1_high {s : State} (h : s.pad1.strobe = true) :
    memRead 0x4016 s = (BitVec.ofNat 8 (bitNat (s.pad1.shift.getLsbD 0)), s) := by
  rw [memRead_port1, Controller.read_high h]

theorem memRead_port2_high {s : State} (h : s.pad2.strobe = true) :
    memRead 0x4017 s = (BitVec.ofNat 8 (bitNat (s.pad2.shift.getLsbD 0)), s) := by
  rw [memRead_port2, Controller.read_high h]

theorem toNat_bitByte (b : Bool) : (bitByte b).toNat = bitNat b := by cases b <;> rfl

/-- The byte of the `k`-th read of a port after a pulse, as a number. -/
theorem toNat_read_after_pulse (buttons : Byte) (k : Nat) :
    (BitVec.ofNat 8 (bitNat ((fun c => (Controller.read c).2)^[k] ⟨buttons, buttons, 0, false⟩).read.1)).toNat =
      if k < 8 then bitNat (buttons.getLsbD k) else 1 := by
  rw [← bitByte_eq, toNat_bitByte, Controller.read_after_pulse]
  split <;> rfl

/-- Settles O44: the strobe and the reads of each port are its controller's own (`writeStrobe_true`, `writeStrobe_false`,
`read_high`, `read_low`); after a pulse the reads go by `read_after_pulse`. -/
theorem controllersReadInOrder : Obligations.ControllersReadInOrder := by
  intro one zero s hone hzero
  refine ⟨?raise, ?lower, memRead_port1_high, memRead_port2_high, fun h => ?low1, fun h => ?low2, fun h1 h2 => ?pulse⟩
  case raise => rw [memWrite_strobe_one hone, Controller.writeStrobe_true, Controller.writeStrobe_true]
  case lower => rw [memWrite_strobe_zero hzero, Controller.writeStrobe_false, Controller.writeStrobe_false]
  case low1 => rw [memRead_port1, Controller.read_low h]; split <;> rfl
  case low2 => rw [memRead_port2, Controller.read_low h]; split <;> rfl
  case pulse =>
    have raised : memWrite 0x4016 one s = { s with
        pad1 := ⟨s.pad1.buttons, s.pad1.buttons, 0, true⟩, pad2 := ⟨s.pad2.buttons, s.pad2.buttons, 0, true⟩ } := by
      rw [memWrite_strobe_one hone, Controller.writeStrobe_true, Controller.writeStrobe_true, h1, h2]
      rfl
    rw [raised]
    refine ⟨memRead_port1_high rfl, memRead_port2_high rfl, fun k => ⟨?_, ?_⟩⟩
    · rw [memWrite_strobe_zero hzero, iterate_memRead_port1, peek, memRead_port1]
      exact toNat_read_after_pulse s.pad1.buttons k
    · rw [memWrite_strobe_zero hzero, iterate_memRead_port2, peek, memRead_port2]
      exact toNat_read_after_pulse s.pad2.buttons k

/-! ### The cartridge -/

/-- The ROM window with its mirror: 0x8000 is a multiple of either ROM length (R361). -/
theorem PlainCart.readPrg_rom {c : PlainCart} (hlen : c.prgLen = 16384 ∨ c.prgLen = 32768) {a : Word}
    (h : 0x8000 ≤ a.toNat) : c.readPrg a = Memory.read c.prgRom (a.toNat % c.prgLen) := by
  have mirror : (a.toNat - 0x8000) % c.prgLen = a.toNat % c.prgLen := by
    rcases hlen with hlen | hlen <;> rw [hlen] <;> omega
  rw [PlainCart.readPrg, if_pos h, mirror]

/-- Settles O45: the address map below 0x2000, the plain cartridge's windows, and the supplied operations. -/
theorem cartridgeWindows : Obligations.CartridgeWindows := by
  refine ⟨fun cfg c p pa v h => ⟨if_pos h, if_pos h⟩, fun c addr a v wf => ?plain,
    fun c addr a v => ⟨⟨_, rfl⟩, ⟨_, rfl⟩, ⟨_, _, rfl⟩, ⟨_, _, rfl⟩⟩⟩
  obtain ⟨len, -, -, -, chr_wf, -⟩ := wf
  refine ⟨fun h => ?rom, fun hlo hhi => ?ram, fun h => ?empty, rfl, fun _ => rfl, fun isRom => ?chrRom,
    fun isRam => ⟨_, CellsStored.single chr_wf a v, ?chrRam⟩⟩
  case rom => rw [Cart.readPrg_plain, PlainCart.readPrg_rom len h]
  case ram => rw [Cart.readPrg_plain, PlainCart.readPrg, if_neg (by omega), if_pos hlo]; rfl
  case empty => rw [Cart.readPrg_plain, PlainCart.readPrg_empty c h]
  case chrRom => rw [Cart.writeChr, PlainCart.writeChr, if_neg (by simp [isRom])]
  case chrRam => rw [Cart.writeChr, PlainCart.writeChr, if_pos isRam]

end Sys2Proof.Machine
end

section
/-! PROOFS. One tick of the PPU whole, the position after many, vblank and its NMI request, and the two pictures
(61_platform_devices.md R300 to R303, R336, R337, R341). -/

namespace Sys2Proof.Machine

/-! ### Each part of a tick as one update -/

/-- Line, dot, frame count and completed picture of the next position (R301, R341). -/
theorem Ppu.advancePosition_eq (p : Ppu) :
    p.advancePosition = { p with
      scanline := if p.dot < 340 then p.scanline else if p.scanline < 261 then p.scanline + 1 else 0
      dot := if p.dot < 340 then p.dot + 1 else 0
      frame := if decide (340 ≤ p.dot ∧ 261 ≤ p.scanline) then p.frame + 1 else p.frame
      front := if decide (340 ≤ p.dot ∧ 261 ≤ p.scanline) then p.back else p.front } := by
  by_cases hd : p.dot < 340
  · have unended : decide (340 ≤ p.dot ∧ 261 ≤ p.scanline) = false := decide_eq_false (by omega)
    simp [Ppu.advancePosition, hd, unended]
  · by_cases hs : p.scanline < 261
    · have unended : decide (340 ≤ p.dot ∧ 261 ≤ p.scanline) = false := decide_eq_false (by omega)
      simp [Ppu.advancePosition, hd, hs, unended]
    · have ended : decide (340 ≤ p.dot ∧ 261 ≤ p.scanline) = true := decide_eq_true (by omega)
      simp [Ppu.advancePosition, hd, hs, ended]

/-- The flags of a position (R336, R337); the start of vblank and the pre-render clear lie on different lines. -/
theorem Ppu.tickFlags_eq (cfg : Params) (p : Ppu) :
    p.tickFlags cfg = { p with
      vblank := decide (p.scanline = 241 ∧ p.dot = 1) ||
        (p.vblank && !decide (p.scanline = 261 ∧ p.dot = cfg.prerenderClearDot.val))
      nmiRequest := p.nmiRequest || (decide (p.scanline = 241 ∧ p.dot = 1) && p.ctrl.getLsbD 7)
      sprite0Hit := p.sprite0Hit && !decide (p.scanline = 261 ∧ p.dot = cfg.prerenderClearDot.val)
      spriteOverflow := p.spriteOverflow && !decide (p.scanline = 261 ∧ p.dot = cfg.prerenderClearDot.val) } := by
  rw [Ppu.tickFlags]
  by_cases starts : p.scanline = 241 ∧ p.dot = 1
  · have kept : decide (p.scanline = 261 ∧ p.dot = cfg.prerenderClearDot.val) = false := decide_eq_false (by omega)
    rw [if_pos starts, kept, decide_eq_true starts]
    simp [Ppu.vblankStart]
  · rw [if_neg starts, decide_eq_false starts]
    by_cases clears : p.scanline = 261 ∧ p.dot = cfg.prerenderClearDot.val
    · rw [if_pos clears, decide_eq_true clears]
      simp [Ppu.prerenderClear]
    · rw [if_neg clears, decide_eq_false clears]
      simp

theorem Ppu.tickScroll_eq (p : Ppu) :
    p.tickScroll =
      { p with v := if p.renderingEnabled ∧ (p.scanline ≤ 239 ∨ p.scanline = 261) then p.scrolled else p.v } := by
  unfold Ppu.tickScroll
  split <;> rfl

theorem Ppu.tickSprites_eq (p : Ppu) :
    p.tickSprites = { p with
      lineSprites :=
        if p.dot = 257 then
          if p.scanline ≤ 239 ∧ p.renderingEnabled then (p.evaluateSprites p.scanline).lineSprites else []
        else p.lineSprites
      spriteOverflow :=
        if p.dot = 257 ∧ p.scanline ≤ 239 ∧ p.renderingEnabled then (p.evaluateSprites p.scanline).spriteOverflow
        else p.spriteOverflow } := by
  unfold Ppu.tickSprites
  by_cases hd : p.dot = 257
  · by_cases hs : p.scanline ≤ 239 ∧ p.renderingEnabled
    · rw [if_pos hd, if_pos hs, if_pos hd, if_pos hs, if_pos ⟨hd, hs⟩]
      rfl
    · rw [if_pos hd, if_neg hs, if_pos hd, if_neg hs, if_neg fun h => hs h.2]
  · rw [if_neg hd, if_neg hd, if_neg fun h => hd h.1]

/-- The scroll and the sprites after the pixel: the pixel writes nothing they depend on, so what they write is said of the
PPU `e` before it (R302). -/
theorem Ppu.afterPixel_eq (cfg : Params) (c : Cart) (e : Ppu) :
    (e.tickPixel cfg c).1.tickScroll.tickSprites = { (e.tickPixel cfg c).1 with
      v := if e.renderingEnabled ∧ (e.scanline ≤ 239 ∨ e.scanline = 261) then e.scrolled else e.v
      lineSprites :=
        if e.dot = 257 then
          if e.scanline ≤ 239 ∧ e.renderingEnabled then (e.evaluateSprites e.scanline).lineSprites else []
        else e.lineSprites
      spriteOverflow :=
        if e.dot = 257 ∧ e.scanline ≤ 239 ∧ e.renderingEnabled then (e.evaluateSprites e.scanline).spriteOverflow
        else e.spriteOverflow } := by
  rw [Ppu.tickPixel_writes, Ppu.tickScroll_eq, Ppu.tickSprites_eq]
  rfl

theorem clears_not_at_selection (cfg : Params) {s d : Nat} (h : d = 257) :
    decide (s = 261 ∧ d = cfg.prerenderClearDot.val) = false :=
  decide_eq_false fun clears => by have := cfg.prerenderClearDot.isLt; omega

/-- Settles O60: the position and the flags are one update each; the events after the pixel read only what they and the
pixel leave alone, the selection's overflow too, as dot 257 is no dot of the pre-render clear. -/
theorem tickPerformsItsEvents : Obligations.TickPerformsItsEvents := by
  intro cfg c p s d completed starts clears on entered drawn
  have enters : p.advancePosition.tickFlags cfg = entered := by
    rw [Ppu.advancePosition_eq, Ppu.tickFlags_eq]
  have pixel : entered.tickPixel cfg c = drawn := rfl
  have drawnOverflow : drawn.1.spriteOverflow = entered.spriteOverflow := by
    rw [← pixel, Ppu.tickPixel_writes]
  have selected : d = 257 → (entered.evaluateSprites s).spriteOverflow = (p.evaluateSprites s).spriteOverflow := by
    intro hd
    have kept : entered.spriteOverflow = p.spriteOverflow := by
      show (p.spriteOverflow && !clears) = p.spriteOverflow
      rw [show clears = false from clears_not_at_selection cfg hd, Bool.not_false, Bool.and_true]
    exact congrArg (· || decide (8 < (p.inRange s).length)) kept
  have overflow :
      (if entered.dot = 257 ∧ entered.scanline ≤ 239 ∧ entered.renderingEnabled
        then (entered.evaluateSprites entered.scanline).spriteOverflow else entered.spriteOverflow) =
      if d = 257 ∧ s ≤ 239 ∧ on = true then (p.evaluateSprites s).spriteOverflow else drawn.1.spriteOverflow := by
    rw [drawnOverflow]
    exact ite_congr rfl (fun h => selected h.1) fun _ => rfl
  rw [Ppu.tick, enters, Ppu.afterPixel_eq, pixel, overflow]
  rfl

/-! ### The position -/

theorem Ppu.ticks_succ_last (cfg : Params) (c : Cart) (n : Nat) (p : Ppu) :
    p.ticks cfg c (n + 1) = (p.ticks cfg c n).1.tick cfg (p.ticks cfg c n).2 := by
  induction n generalizing p c with
  | zero => rfl
  | succ n ih => rw [Ppu.ticks_succ, ih, ← Ppu.ticks_succ]

/-- Settles O46: one tick is one dot (`advancePosition_position`), and so `n` ticks are `n`. -/
theorem ticksAdvanceThePosition : Obligations.TicksAdvanceThePosition := by
  intro cfg c p n hs hd
  induction n with
  | zero =>
    rw [Ppu.ticks]
    exact ⟨hs, hd, (Nat.add_zero _).symm⟩
  | succ n ih =>
    obtain ⟨scanline, dot, count⟩ := ih
    have next := Ppu.advancePosition_position _ scanline dot
    rw [count, Nat.add_assoc _ n 1] at next
    simpa only [Ppu.ticks_succ_last, Ppu.tick_scanline, Ppu.tick_dot, Ppu.tick_frame] using next

/-! ### Vblank and its NMI request -/

/-- Vblank after a tick, by the position it enters (R336, R337). -/
theorem Ppu.tick_vblank_eq (cfg : Params) (c : Cart) (p : Ppu) :
    (p.tick cfg c).1.vblank = (decide ((p.tick cfg c).1.scanline = 241 ∧ (p.tick cfg c).1.dot = 1) ||
      (p.vblank && !decide ((p.tick cfg c).1.scanline = 261 ∧ (p.tick cfg c).1.dot = cfg.prerenderClearDot.val))) := by
  rw [Ppu.tick_vblank, Ppu.tickFlags_eq, Ppu.tick_scanline, Ppu.tick_dot]
  dsimp only
  rw [Ppu.advancePosition_vblank]

/-- The NMI request after a tick: raised with vblank, where enabled, and never withdrawn (R336). -/
theorem Ppu.tick_nmiRequest_eq (cfg : Params) (c : Cart) (p : Ppu) :
    (p.tick cfg c).1.nmiRequest = (p.nmiRequest ||
      (decide ((p.tick cfg c).1.scanline = 241 ∧ (p.tick cfg c).1.dot = 1) && p.ctrl.getLsbD 7)) := by
  rw [Ppu.tick_nmiRequest, Ppu.tickFlags_eq, Ppu.tick_scanline, Ppu.tick_dot]
  dsimp only
  rw [Ppu.advancePosition_nmiRequest, Ppu.advancePosition_ctrl]

/-- Below the visible lines, but at dot 257, a tick does to the sprite flags what the position does (R302, R337). -/
theorem Ppu.tick_spriteFlags_hidden (cfg : Params) (c : Cart) {p : Ppu} (hs : 240 ≤ (p.tick cfg c).1.scanline)
    (hd : (p.tick cfg c).1.dot ≠ 257) :
    (p.tick cfg c).1.sprite0Hit = (p.advancePosition.tickFlags cfg).sprite0Hit ∧
      (p.tick cfg c).1.spriteOverflow = (p.advancePosition.tickFlags cfg).spriteOverflow := by
  rw [Ppu.tick_scanline, ← Ppu.tickFlags_scanline cfg] at hs
  rw [Ppu.tick_dot, ← Ppu.tickFlags_dot cfg] at hd
  have undrawn : (p.advancePosition.tickFlags cfg).tickPixel cfg c = (p.advancePosition.tickFlags cfg, c) :=
    if_neg (by omega)
  rw [Ppu.tick, Ppu.afterPixel_eq, undrawn]
  exact ⟨rfl, if_neg fun h => hd h.1⟩

/-- From the reset clear, up to the pre-render clear, vblank is set from tick 82,182 = 241 * 341 + 1 on. -/
theorem Ppu.clearedAt_ticks_vblank (cfg : Params) (c : Cart) {n : Nat} (hn : n < 89001 + cfg.prerenderClearDot.val) :
    ((Ppu.clearedAt 0).ticks cfg c n).1.vblank = decide (82182 ≤ n) := by
  induction n with
  | zero => rfl
  | succ n ih =>
    have clearDot := cfg.prerenderClearDot.isLt
    obtain ⟨scanline, dot, count⟩ :=
      ticksAdvanceThePosition cfg c (Ppu.clearedAt 0) (n + 1) (Nat.zero_le _) (Nat.zero_le _)
    have reset : (Ppu.clearedAt 0).scanline * 341 + (Ppu.clearedAt 0).dot + 89342 * (Ppu.clearedAt 0).frame = 0 := rfl
    rw [Ppu.ticks_succ_last] at scanline dot count ⊢
    rw [Ppu.tick_vblank_eq, ih (by omega)]
    generalize (Ppu.tick cfg _ _).1.scanline = s at *
    generalize (Ppu.tick cfg _ _).1.dot = d at *
    generalize (Ppu.tick cfg _ _).1.frame = f at *
    have uncleared : decide (s = 261 ∧ d = cfg.prerenderClearDot.val) = false := decide_eq_false (by omega)
    rw [uncleared, Bool.not_false, Bool.and_true, ← Bool.decide_or]
    exact decide_eq_decide.2 (by omega)

/-- Settles O47: vblank and the request after a tick go by the position it enters; from the reset clear that is the tick's
number. -/
theorem vblankAndNmiTiming : Obligations.VblankAndNmiTiming := by
  refine ⟨fun cfg c p hs hd => ?starts, fun cfg c p hs hd => ?clears, fun cfg c p h => ?others,
    fun cfg c n hn => Ppu.clearedAt_ticks_vblank cfg c hn⟩
  case starts => rw [Ppu.tick_vblank_eq, Ppu.tick_nmiRequest_eq, hs, hd]; simp
  case clears =>
    have clearDot := cfg.prerenderClearDot.isLt
    obtain ⟨hit, overflow⟩ := p.tick_spriteFlags_hidden cfg c (by omega) (by omega)
    rw [Ppu.tick_vblank_eq, Ppu.tick_nmiRequest_eq, hit, overflow, Ppu.tickFlags_eq, hs, hd]
    rw [Ppu.tick_scanline] at hs
    rw [Ppu.tick_dot] at hd
    simp [hs, hd]
  case others =>
    simp only [List.mem_cons, List.not_mem_nil, Prod.mk.injEq, or_false, not_or] at h
    obtain ⟨noStart, noClear⟩ := h
    rw [Ppu.tick_vblank_eq, Ppu.tick_nmiRequest_eq, decide_eq_false noStart, decide_eq_false noClear]
    simp

/-! ### The two pictures -/

/-- Settles O48: `back` is written by the pixel alone (`tickPixel_back`), `front` and the count by the position alone. -/
theorem frameBuffersChangeWhereTheRulesSay : Obligations.FrameBuffersChangeWhereTheRulesSay := by
  intro cfg c p
  rw [Ppu.tick_front, Ppu.tick_frame, Ppu.tick_back, Ppu.tick_scanline, Ppu.tick_dot]
  refine ⟨fun k changed => ?back, fun wraps hd => ?published, fun h => ?kept⟩
  case back =>
    have drawn := Ppu.tickPixel_back cfg c (p.advancePosition.tickFlags cfg)
    rw [Ppu.tickFlags_back, Ppu.advancePosition_back, Ppu.tickFlags_scanline, Ppu.tickFlags_dot] at drawn
    rcases drawn with same | ⟨hs, hlo, hhi, v, written⟩
    · exact absurd (by rw [same]) changed
    · refine ⟨hs, hlo, hhi, not_not.1 fun other => changed ?_⟩
      rw [written]
      exact Memory.read_write_other _ _ other
  case published =>
    rw [Ppu.advancePosition_eq] at wraps ⊢
    dsimp only at wraps ⊢
    have ended : 261 ≤ p.scanline := by by_contra below; simp [hd, show p.scanline < 261 by omega] at wraps
    exact if_pos (decide_eq_true ⟨hd.ge, ended⟩)
  case kept =>
    have unended : decide (340 ≤ p.dot ∧ 261 ≤ p.scanline) = false := decide_eq_false (by omega)
    rw [Ppu.advancePosition_eq, unended]
    exact ⟨rfl, rfl⟩

end Sys2Proof.Machine
end

section
/-! PROOFS. The scroll counters on the fields of `v` and `t`, and the sprite selection (61_platform_devices.md R335, R339). -/

namespace Sys2Proof.Machine

/-! ### The scroll counters -/

theorem getLsbD_flip (b : BitVec 1) : (1 - b).getLsbD 0 = !b.getLsbD 0 := by revert b; decide

theorem incrementY_below {v : BitVec 15} (h : v.toNat / 4096 < 7) : (incrementY v).toNat = v.toNat + 4096 := by
  have fine := toNat_fineY v
  have up : (fineY v + 1).toNat = v.toNat / 4096 + 1 := by
    rw [BitVec.toNat_add, fine]
    exact Nat.mod_eq_of_lt (by change _ + 1 < 8; omega)
  rw [incrementY, if_pos (by omega), toNat_setField _ (by decide), up]
  omega

/-- At fine Y 7, on another row than 29 and 31: fine Y cleared, the next row (R335). -/
theorem incrementY_nextRow {v : BitVec 15} (h : v.toNat / 4096 = 7) (h29 : v.toNat / 32 % 32 ≠ 29)
    (h31 : v.toNat / 32 % 32 ≠ 31) : (incrementY v).toNat + 4096 * 7 = v.toNat + 32 := by
  have fine := toNat_fineY v
  have coarse := toNat_coarseY v
  have up : (coarseY v + 1).toNat = v.toNat / 32 % 32 + 1 := by
    rw [BitVec.toNat_add, coarse]
    exact Nat.mod_eq_of_lt (by change _ + 1 < 32; omega)
  have zero : (0 : BitVec 3).toNat = 0 := rfl
  rw [incrementY, if_neg (by omega)]
  dsimp only
  rw [if_neg (by omega), if_neg (by omega), toNat_setField _ (by decide), toNat_setField _ (by decide), up, zero]
  omega

theorem bitsChanged_clearFine (v : BitVec 15) :
    BitsChanged v (setField v 12 (0 : BitVec 3)) (fieldBits 12 3 (0 : BitVec 3) 0) :=
  bitsChanged_setField v (by decide) fun j _ => by rw [Nat.zero_add]

/-- Fine and coarse Y cleared (R335). -/
theorem bitsChanged_clearRows (v : BitVec 15) :
    BitsChanged v (setField (setField v 12 (0 : BitVec 3)) 5 (0 : BitVec 5))
      (fieldBits 12 3 (0 : BitVec 3) 0 ++ fieldBits 5 5 (0 : BitVec 5) 0) :=
  (bitsChanged_clearFine v).append (bitsChanged_setField _ (by decide) fun j _ => by rw [Nat.zero_add])
    (fieldBits_disjoint (.inr (by decide)))

theorem fieldBits_one {n : Nat} (at0 : Nat) (u : BitVec n) (from0 : Nat) :
    fieldBits at0 1 u from0 = [(at0, u.getLsbD from0)] := rfl

/-- Past row 29: the rows cleared, the vertical nametable flipped (R335). -/
theorem bitsChanged_flipNametable (v : BitVec 15) :
    BitsChanged v (setField (setField (setField v 12 (0 : BitVec 3)) 5 (0 : BitVec 5)) 11 (1 - nametableY v))
      (fieldBits 12 3 (0 : BitVec 3) 0 ++ fieldBits 5 5 (0 : BitVec 5) 0 ++ [(11, !v.getLsbD 11)]) := by
  have flipped : fieldBits 11 1 (1 - nametableY v) 0 = [(11, !v.getLsbD 11)] := by
    rw [fieldBits_one, getLsbD_flip, nametableY, BitVec.getLsbD_extractLsb']
    rfl
  rw [← flipped]
  exact (bitsChanged_clearRows v).append (bitsChanged_setField _ (by decide) fun j _ => by rw [Nat.zero_add])
    (List.forall_mem_append.2 ⟨fieldBits_disjoint (.inr (by decide)), fieldBits_disjoint (.inl (by decide))⟩)

theorem bitsChanged_copyX (v t : BitVec 15) : BitsChanged v (copyX v t) (fieldBits 0 5 t 0 ++ fieldBits 10 1 t 10) :=
  (bitsChanged_setField_extract v (by decide) t 0).append (bitsChanged_setField_extract _ (by decide) t 10)
    (fieldBits_disjoint (.inl (by decide)))

theorem bitsChanged_copyY (v t : BitVec 15) :
    BitsChanged v (copyY v t) (fieldBits 5 5 t 5 ++ fieldBits 11 1 t 11 ++ fieldBits 12 3 t 12) :=
  ((bitsChanged_setField_extract v (by decide) t 5).append (bitsChanged_setField_extract _ (by decide) t 11)
    (fieldBits_disjoint (.inl (by decide)))).append (bitsChanged_setField_extract _ (by decide) t 12)
    (List.forall_mem_append.2 ⟨fieldBits_disjoint (.inl (by decide)), fieldBits_disjoint (.inl (by decide))⟩)

/-- Settles O50: IncrementY by its four cases, the copies field by field. -/
theorem scrollCounters : Obligations.ScrollCounters := by
  intro v t fine coarse
  have fineEq : (fineY v).toNat = fine := toNat_fineY v
  have coarseEq : (coarseY v).toNat = coarse := toNat_coarseY v
  refine ⟨incrementY_below, fun h7 h29 => ⟨_, bitsChanged_flipNametable v, ?row29⟩,
    fun h7 h31 => ⟨_, bitsChanged_clearRows v, ?row31⟩, incrementY_nextRow, bitsChanged_copyX v t, bitsChanged_copyY v t⟩
  case row29 => rw [incrementY, if_neg (by omega)]; exact if_pos (coarseEq.trans h29)
  case row31 => rw [incrementY, if_neg (by omega)]; exact (if_neg (by omega)).trans (if_pos (coarseEq.trans h31))

/-! ### Sprite selection -/

/-- The rule's range, with no subtraction (R339). -/
theorem Ppu.covers_eq (p : Ppu) (s n : Nat) :
    p.covers s n = decide ((Memory.read p.oam (4 * n)).toNat ≤ s ∧
      s < (Memory.read p.oam (4 * n)).toNat + p.spriteHeight) :=
  decide_eq_decide.2 (by omega)

/-- Settles O49: the selected sprites are the entries of the first eight indices in range. -/
theorem spriteSelection : Obligations.SpriteSelection := by
  intro p s height inRange q
  have range : p.inRange s = inRange := List.filter_congr fun n _ => p.covers_eq s n
  have sprites : q.lineSprites = (inRange.take 8).map p.oamEntry :=
    congrArg (fun l : List Nat => (l.take 8).map p.oamEntry) range
  refine ⟨?indices, ?entries, congrArg (fun l : List Nat => p.spriteOverflow || decide (8 < l.length)) range, rfl⟩
  case indices =>
    rw [sprites, List.map_map]
    exact List.map_id _
  case entries =>
    rw [sprites, List.forall_mem_map]
    exact fun n _ => ⟨rfl, rfl, rfl, rfl⟩

end Sys2Proof.Machine
end

section
/-! PROOFS. The pixels: the background's fetches, the first opaque sprite, and their composition (61_platform_devices.md
R338, R340, R342, R343). -/

namespace Sys2Proof.Machine

/-! ### The background pixel -/

/-- Two bits of two planes as a number (R338, R342). -/
theorem toNat_planeBits (high low : Byte) (b : Nat) :
    (planeBits high low b).toNat = 2 * (high.toNat / 2 ^ b % 2) + low.toNat / 2 ^ b % 2 := by
  rw [planeBits, toNat_append_add, toNat_ofBool_eq, toNat_ofBool_eq, bitNat_getLsbD, bitNat_getLsbD, pow_one,
    Nat.mul_comm 2]

theorem toNat_nametableAddr (nty ntx : BitVec 1) (cy cx : BitVec 5) :
    ((2 : BitVec 2) ++ (nty ++ (ntx ++ (cy ++ cx)))).toNat =
      0x2000 + 2048 * nty.toNat + 1024 * ntx.toNat + 32 * cy.toNat + cx.toNat := by
  simp only [toNat_append_add, BitVec.ofNat_eq_ofNat, BitVec.toNat_ofNat]
  omega

theorem toNat_quadrantAddr (nty ntx : BitVec 1) (cy cx : BitVec 5) :
    ((2 : BitVec 2) ++ (nty ++ (ntx ++ ((15 : BitVec 4) ++ (cy.extractLsb' 2 3 ++ cx.extractLsb' 2 3))))).toNat =
      0x23C0 + 2048 * nty.toNat + 1024 * ntx.toNat + 8 * (cy.toNat / 4) + cx.toNat / 4 := by
  have := cy.isLt
  have := cx.isLt
  simp only [toNat_append_add, BitVec.ofNat_eq_ofNat, BitVec.toNat_ofNat, toNat_extract]
  omega

theorem toNat_patternAddr (table : Bool) (tile : Byte) (fine : BitVec 3) :
    ((0 : BitVec 1) ++ (BitVec.ofBool table ++ (tile ++ ((0 : BitVec 1) ++ fine)))).toNat =
      4096 * bitNat table + 16 * tile.toNat + fine.toNat := by
  simp only [toNat_append_add, BitVec.ofNat_eq_ofNat, BitVec.toNat_ofNat, toNat_ofBool_eq]
  omega

/-- The horizontal nametable bit, flipped past column 31 (R338). -/
theorem toNat_xor_ofBool (x : BitVec 1) (flip : Bool) :
    (x ^^^ BitVec.ofBool flip).toNat = if flip then 1 - x.toNat else x.toNat := by
  revert x flip
  decide

/-- The two bits of a quadrant, by bit 1 of the coarse row and column (R338). -/
theorem quadrant_eq (cy cx : BitVec 5) :
    ((if cy.getLsbD 1 then 4 else 0) + if cx.getLsbD 1 then 2 else 0) =
      4 * (cy.toNat / 2 % 2) + 2 * (cx.toNat / 2 % 2) := by
  have hy : bitNat (cy.getLsbD 1) = cy.toNat / 2 % 2 := bitNat_getLsbD cy 1
  have hx : bitNat (cx.getLsbD 1) = cx.toNat / 2 % 2 := bitNat_getLsbD cx 1
  rw [← hy, ← hx]
  cases cy.getLsbD 1 <;> cases cx.getLsbD 1 <;> rfl

/-- What hides a layer: switched off, or clipped in the left 8 columns (R338, R342). -/
theorem hidden_iff {shown leftShown : Bool} {px : Nat} :
    (!shown || (decide (px < 8) && !leftShown)) = true ↔ shown = false ∨ (px < 8 ∧ leftShown = false) := by
  rw [Bool.or_eq_true, Bool.and_eq_true, decide_eq_true_eq, Bool.not_eq_true', Bool.not_eq_true']

theorem bgPixel_off (cfg : Params) (c : Cart) {p : Ppu} {px : Nat}
    (h : p.mask.getLsbD 3 = false ∨ (px < 8 ∧ p.mask.getLsbD 1 = false)) : bgPixel cfg c p px = (⟨0, 0⟩, c) :=
  if_pos (hidden_iff.2 h)

/-- Settles O51: the addresses of the four fetches are joined bit fields, here as numbers. -/
theorem backgroundPixelFetches : Obligations.BackgroundPixelFetches := by
  intro cfg c p px ta aa la hpx coarse cy fx col cx ntx nty hta haa tile hla atb low high b
  refine ⟨bgPixel_off cfg c, fun shown unclipped => ?_⟩
  have on : ¬ (!p.mask.getLsbD 3 || (decide (px < 8) && !p.mask.getLsbD 1)) = true := by
    rw [hidden_iff, shown]
    rcases unclipped with right | left
    · simp [Nat.not_lt.2 right]
    · simp [left]
  have column : (coarseX p.v).toNat + (p.x.toNat + px) / 8 = col := by rw [toNat_coarseX]
  have cxEq : (BitVec.ofNat 5 col).toNat = cx := BitVec.toNat_ofNat col 5
  have cyEq : (coarseY p.v).toNat = cy := toNat_coarseY p.v
  have ntxEq : (nametableX p.v ^^^ BitVec.ofBool (decide (32 ≤ col))).toNat = ntx := by
    rw [toNat_xor_ofBool, toNat_nametableX]
    simp only [decide_eq_true_eq]
    rfl
  have ntyEq : (nametableY p.v).toNat = nty := toNat_nametableY p.v
  have taEq := BitVec.eq_of_toNat_eq ((toNat_nametableAddr (nametableY p.v)
    (nametableX p.v ^^^ BitVec.ofBool (decide (32 ≤ col))) (coarseY p.v) (BitVec.ofNat 5 col)).trans
      (by rw [cxEq, cyEq, ntxEq, ntyEq, hta]))
  have aaEq := BitVec.eq_of_toNat_eq ((toNat_quadrantAddr (nametableY p.v)
    (nametableX p.v ^^^ BitVec.ofBool (decide (32 ≤ col))) (coarseY p.v) (BitVec.ofNat 5 col)).trans
      (by rw [cxEq, cyEq, ntxEq, ntyEq, haa]))
  have laEq := BitVec.eq_of_toNat_eq ((toNat_patternAddr (p.ctrl.getLsbD 4) tile.1 (fineY p.v)).trans
    (by rw [toNat_fineY, hla]))
  have fetched : bgPixel cfg c p px = (⟨planeBits high.1 low.1 b,
      atb.1.extractLsb' (4 * (cy / 2 % 2) + 2 * (cx / 2 % 2)) 2⟩, high.2) := by
    rw [bgPixel, if_neg on]
    dsimp only
    rw [column, taEq, aaEq, laEq, quadrant_eq, cyEq, cxEq]
  rw [fetched]
  exact ⟨toNat_planeBits _ _ _, toNat_extract _ _ _, rfl⟩

/-! ### The sprite pixel -/

/-- A field above a smaller number. -/
theorem toNat_shiftLeft_or {n k : Nat} {x y : BitVec n} (hx : x.toNat * 2 ^ k < 2 ^ n) (hy : y.toNat < 2 ^ k) :
    (x <<< k ||| y).toNat = x.toNat * 2 ^ k + y.toNat := by
  rw [BitVec.toNat_or, BitVec.toNat_shiftLeft, Nat.shiftLeft_eq, Nat.mod_eq_of_lt hx, ← Nat.shiftLeft_eq,
    Nat.shiftLeft_add_eq_or_of_lt hy]

/-- The address of a sprite's pattern row as a number, for 16 rows and for 8 (R342). -/
def patternNumber (p : Ppu) (tile row : Nat) : Nat :=
  if p.ctrl.getLsbD 5 then 4096 * (tile % 2) + 16 * (tile - tile % 2 + row / 8) + row % 8
  else 4096 * bitNat (p.ctrl.getLsbD 3) + 16 * tile + row

/-- The tile of the upper or the lower half of 16 rows (R342). -/
theorem toNat_tallTile (tile : Byte) {row : Nat} (h : row < 16) :
    ((tile &&& 0xFE) + if 8 ≤ row then 1 else 0).toNat = tile.toNat - tile.toNat % 2 + row / 8 := by
  have := tile.isLt
  have even : (tile &&& 0xFE).toNat = tile.toNat - tile.toNat % 2 := by revert tile; decide
  rw [BitVec.toNat_add, even]
  split
  · rw [show (1 : Byte).toNat = 1 from rfl]; omega
  · rw [show (0 : Byte).toNat = 0 from rfl]; omega

/-- The three fields of a pattern address: the table, the tile, the row (R342). -/
theorem toNat_patternFields (table : Bool) (tile : Byte) {row : Nat} (h : row < 16) :
    ((BitVec.ofBool table).setWidth 14 <<< 12 ||| tile.setWidth 14 <<< 4 ||| BitVec.ofNat 14 row).toNat =
      4096 * bitNat table + 16 * tile.toNat + row := by
  have := tile.isLt
  have := bitNat_lt table
  have tableEq : ((BitVec.ofBool table).setWidth 14).toNat = bitNat table := by cases table <;> rfl
  have tileEq : (tile.setWidth 14).toNat = tile.toNat := by
    rw [BitVec.toNat_setWidth]; exact Nat.mod_eq_of_lt (by omega)
  have rowEq : (BitVec.ofNat 14 row).toNat = row := by
    rw [BitVec.toNat_ofNat]; exact Nat.mod_eq_of_lt (by omega)
  have lower : (tile.setWidth 14 <<< 4 ||| BitVec.ofNat 14 row).toNat = tile.toNat * 2 ^ 4 + row := by
    rw [toNat_shiftLeft_or (by omega) (by omega), tileEq, rowEq]
  rw [BitVec.or_assoc, toNat_shiftLeft_or (by omega) (by omega), lower, tableEq]
  omega

theorem spritePatternAddr_eq {p : Ppu} (tile : Byte) {row : Nat} (h : row < p.spriteHeight) :
    spritePatternAddr p tile row = BitVec.ofNat 14 (patternNumber p tile.toNat row) := by
  have number : (spritePatternAddr p tile row).toNat = patternNumber p tile.toNat row := by
    unfold spritePatternAddr patternNumber
    rw [Ppu.spriteHeight] at h
    cases tall : p.ctrl.getLsbD 5 <;> simp only [tall, if_true, Bool.false_eq_true, if_false] at h ⊢
    · exact toNat_patternFields _ tile (by omega)
    · rw [toNat_patternFields _ _ (by omega), toNat_tallTile tile h, bitNat_getLsbD, pow_zero, Nat.div_one]
  rw [← number, BitVec.ofNat_toNat, BitVec.setWidth_eq]

/-- A sprite whose row on line `s` is 0 to h - 1, as R342 says it is. -/
def Ppu.rowInRange (p : Ppu) (s : Nat) (sp : Sprite) : Prop :=
  sp.y.toNat + 1 ≤ s ∧ s - 1 - sp.y.toNat < p.spriteHeight

/-- The pattern row of a sprite in range, flipped or not (R342). -/
def rowNumber (p : Ppu) (s : Nat) (sp : Sprite) : Nat :=
  if sp.attr.getLsbD 7 then p.spriteHeight - 1 - (s - 1 - sp.y.toNat) else s - 1 - sp.y.toNat

theorem rowNumber_lt {p : Ppu} {s : Nat} {sp : Sprite} (h : p.rowInRange s sp) : rowNumber p s sp < p.spriteHeight := by
  obtain ⟨-, down⟩ := h
  unfold rowNumber
  split <;> omega

theorem spriteRow_eq {p : Ppu} {s : Nat} {sp : Sprite} (h : p.rowInRange s sp) :
    spriteRow s sp.y p.spriteHeight (sp.attr.getLsbD 7) = rowNumber p s sp := by
  obtain ⟨above, down⟩ := h
  exact if_neg (by omega)

/-- The value of a sprite at a column as a number, from two pattern bytes at addresses by numbers, and the cartridge after
them (R342). -/
def spriteFetch (cfg : Params) (p : Ppu) (px s : Nat) (d : Cart) (sp : Sprite) : Nat × Cart :=
  let pattern := patternNumber p sp.tile.toNat (rowNumber p s sp)
  let low := ppuRead cfg d p (BitVec.ofNat 14 pattern)
  let high := ppuRead cfg low.2 p (BitVec.ofNat 14 (pattern + 8))
  let b := if sp.attr.getLsbD 6 then px - sp.x.toNat else 7 - (px - sp.x.toNat)
  if sp.x.toNat ≤ px ∧ px ≤ sp.x.toNat + 7 then
    (2 * (high.1.toNat / 2 ^ b % 2) + low.1.toNat / 2 ^ b % 2, high.2)
  else (0, d)

theorem spriteFetch_eq (cfg : Params) {p : Ppu} (px : Nat) {s : Nat} (d : Cart) {sp : Sprite} (h : p.rowInRange s sp) :
    spriteFetch cfg p px s d sp = ((spriteValue cfg d p px s sp).1.toNat, (spriteValue cfg d p px s sp).2) := by
  have addr : spritePatternAddr p sp.tile (spriteRow s sp.y p.spriteHeight (sp.attr.getLsbD 7)) =
      BitVec.ofNat 14 (patternNumber p sp.tile.toNat (rowNumber p s sp)) := by
    rw [spriteRow_eq h, spritePatternAddr_eq _ (rowNumber_lt h)]
  unfold spriteFetch spriteValue
  dsimp only
  by_cases reached : sp.x.toNat ≤ px ∧ px ≤ sp.x.toNat + 7
  · have reached' : sp.x.toNat ≤ px ∧ px - sp.x.toNat ≤ 7 := by omega
    rw [if_pos reached, if_pos reached', addr, toNat_planeBits, BitVec.ofNat_add]
    rfl
  · have unreached : ¬ (sp.x.toNat ≤ px ∧ px - sp.x.toNat ≤ 7) := by omega
    rw [if_neg reached, if_neg unreached]
    rfl

/-- The answer of a sprite with an opaque value (R342). -/
def spriteDot (value : Nat) (sp : Sprite) : SpriteDot :=
  ⟨BitVec.ofNat 2 value, BitVec.ofNat 2 sp.attr.toNat, sp.attr.getLsbD 5, decide (sp.index = 0)⟩

/-- The list that is drawn from is the argument, not the PPU's own. -/
theorem firstOpaque_withSprites (cfg : Params) (p : Ppu) (px s : Nat) (own l : List Sprite) (c : Cart) :
    firstOpaque cfg { p with lineSprites := own } px s c l = firstOpaque cfg p px s c l := by
  induction l generalizing c with
  | nil => rfl
  | cons sp rest ih => rw [firstOpaque, firstOpaque, ih]; rfl

/-- The first sprite of the list, in range: it decides where it is opaque, else the rest does (R342). -/
theorem firstOpaque_cons (cfg : Params) {p : Ppu} (px : Nat) {s : Nat} (c : Cart) {sp : Sprite} (rest : List Sprite)
    (h : p.rowInRange s sp) :
    firstOpaque cfg p px s c (sp :: rest) =
      if (spriteFetch cfg p px s c sp).1 = 0 then firstOpaque cfg p px s (spriteFetch cfg p px s c sp).2 rest
      else (spriteDot (spriteFetch cfg p px s c sp).1 sp, (spriteFetch cfg p px s c sp).2) := by
  have transparent : (spriteValue cfg c p px s sp).1.toNat = 0 ↔ (spriteValue cfg c p px s sp).1 = 0 :=
    ⟨fun e => BitVec.eq_of_toNat_eq e, fun e => by rw [e]; rfl⟩
  have palette : BitVec.ofNat 2 sp.attr.toNat = sp.attr.extractLsb' 0 2 := by
    apply BitVec.eq_of_toNat_eq
    rw [toNat_extract, BitVec.toNat_ofNat, pow_zero, Nat.div_one]
  rw [firstOpaque, spriteFetch_eq cfg px c h]
  simp only [transparent, spriteDot, palette, BitVec.ofNat_toNat, BitVec.setWidth_eq]

/-- On the no-bank-switching cartridge, which no fetch changes, the first listed sprite with an opaque value (R342). -/
theorem firstOpaque_plain (cfg : Params) {p : Ppu} (px : Nat) {s : Nat} (q : PlainCart) {l : List Sprite}
    (h : ∀ sp ∈ l, p.rowInRange s sp) :
    firstOpaque cfg p px s (.plain q) l =
      ((l.find? fun sp => decide ((spriteFetch cfg p px s (.plain q) sp).1 ≠ 0)).elim .none
        fun sp => spriteDot (spriteFetch cfg p px s (.plain q) sp).1 sp, .plain q) := by
  induction l with
  | nil => rfl
  | cons sp rest ih =>
    obtain ⟨first, others⟩ := List.forall_mem_cons.1 h
    have kept : (spriteFetch cfg p px s (.plain q) sp).2 = .plain q := by
      rw [spriteFetch_eq cfg px _ first]
      exact (spriteValue_read cfg (.plain q) p px s sp).plain
    rw [firstOpaque_cons cfg px _ rest first, kept]
    by_cases transparent : (spriteFetch cfg p px s (.plain q) sp).1 = 0
    · rw [if_pos transparent, ih others, List.find?_cons_of_neg (by simp [transparent])]
    · rw [if_neg transparent, List.find?_cons_of_pos (by simp [transparent])]
      rfl

theorem spritePixel_off (cfg : Params) (c : Cart) {p : Ppu} {px : Nat} (s : Nat)
    (h : p.mask.getLsbD 4 = false ∨ (px < 8 ∧ p.mask.getLsbD 2 = false)) : spritePixel cfg c p px s = (.none, c) :=
  if_pos (hidden_iff.2 h)

theorem spritePixel_on (cfg : Params) (c : Cart) {p : Ppu} {px : Nat} (s : Nat)
    (h : ¬ (p.mask.getLsbD 4 = false ∨ (px < 8 ∧ p.mask.getLsbD 2 = false))) :
    spritePixel cfg c p px s = firstOpaque cfg p px s c p.lineSprites :=
  if_neg (mt hidden_iff.1 h)

/-- Settles O52: shown sprites are drawn by `firstOpaque`, one sprite at a time. -/
theorem spritePixelIsTheFirstOpaque : Obligations.SpritePixelIsTheFirstOpaque := by
  intro cfg c p px s height inRange pattern fetched dot off
  refine ⟨?nothing, fun sp rest on list first => ?one, fun on all plain => ?plain⟩
  case nothing =>
    intro h
    by_cases clipped : off
    · exact spritePixel_off cfg c s clipped
    · rw [spritePixel_on cfg c s clipped, h.resolve_left clipped]
      rfl
  case one =>
    have others : spritePixel cfg (fetched c sp).2 { p with lineSprites := rest } px s =
        firstOpaque cfg p px s (fetched c sp).2 rest :=
      (spritePixel_on (p := { p with lineSprites := rest }) cfg _ s on).trans
        (firstOpaque_withSprites cfg p px s rest rest _)
    rw [spritePixel_on cfg c s on, list, others]
    exact firstOpaque_cons cfg px c rest first
  case plain =>
    obtain ⟨q, rfl⟩ := Cart.mapper_plain plain
    rw [spritePixel_on cfg _ s on]
    refine (firstOpaque_plain cfg px q all).trans ?_
    split
    next absent => exact congrArg (fun o : Option Sprite => (o.elim SpriteDot.none _, Cart.plain q)) absent
    next sp found => exact congrArg (fun o : Option Sprite => (o.elim SpriteDot.none _, Cart.plain q)) found

/-! ### Composition -/

/-- Which of background and sprite shows, as a palette index (R340). -/
theorem toNat_composeIndex (bg : BgDot) (sp : SpriteDot) :
    (composeIndex bg sp).toNat =
      if decide (sp.pix ≠ 0 ∧ (bg.pix = 0 ∨ sp.behind = false)) then 16 + 4 * sp.pal.toNat + sp.pix.toNat
      else if bg.pix = 0 then 0 else 4 * bg.pal.toNat + bg.pix.toNat := by
  have sprite : (1#1 ++ (sp.pal ++ sp.pix)).toNat = 16 + 4 * sp.pal.toNat + sp.pix.toNat := by
    simp only [toNat_append_add, BitVec.toNat_ofNat]
    omega
  have background : (0#1 ++ (bg.pal ++ bg.pix)).toNat = 4 * bg.pal.toNat + bg.pix.toNat := by
    simp only [toNat_append_add, BitVec.toNat_ofNat]
    omega
  unfold composeIndex
  by_cases hb : bg.pix = 0#2 <;> by_cases hs : sp.pix = 0#2
  · simp [hb, hs]
  · simp [hb, hs, sprite]
  · simp [hb, hs, background]
  · cases sp.behind
    · simp [hb, hs, sprite]
    · simp [hb, hs, background]

/-- The palette address of an index: the backdrops are one entry for background and sprites (R315, R340). -/
theorem palIndex_ofIndex (idx : BitVec 5) :
    palIndex ((0x3F00 : PpuAddr) ||| idx.setWidth 14) = if idx.toNat % 4 = 0 then idx.toNat % 16 else idx.toNat := by
  revert idx
  decide

theorem toNat_greyscale (v : Byte) : (v &&& 0x30).toNat = v.toNat / 16 % 4 * 16 := by
  revert v
  decide

/-- The 6-bit colour of a palette index, greyscale applied (R340). -/
theorem Ppu.colour_eq (p : Ppu) (idx : BitVec 5) :
    (p.colour idx).setWidth 6 =
      let entry := if idx.toNat % 4 = 0 then idx.toNat % 16 else idx.toNat
      let stored := (Memory.read p.pal entry).toNat % 64
      BitVec.ofNat 6 (if p.mask.getLsbD 0 then stored / 16 % 4 * 16 else stored) := by
  unfold Ppu.colour
  rw [palIndex_ofIndex]
  dsimp only
  generalize Memory.read p.pal _ = v
  apply BitVec.eq_of_toNat_eq
  rw [BitVec.toNat_setWidth, BitVec.toNat_ofNat]
  split
  · rw [toNat_greyscale]; omega
  · omega

/-- Settles O53: the index by `toNat_composeIndex`, its colour by `colour_eq`; with rendering off nothing is fetched. -/
theorem pixelComposition : Obligations.PixelComposition := by
  intro cfg c p px s bg dot sp on sprite idx entry stored colour
  rw [Ppu.renderPixel]
  by_cases shown : p.renderingEnabled = true
  · have onEq : on = true := shown
    have index : (composeIndex bg.1 sp).toNat = idx := by
      rw [toNat_composeIndex]
      exact (if_neg (by simp [onEq])).symm
    have hit : hitsSpriteZero bg.1 sp px =
        decide (on = true ∧ bg.1.pix ≠ 0 ∧ sp.pix ≠ 0 ∧ px ≠ 255 ∧ sp.isZero = true) := by
      simp [hitsSpriteZero, onEq, ← and_assoc]
    rw [if_pos shown]
    dsimp only
    rw [hit, Ppu.colour_eq, index]
    rfl
  · have onEq : on = false := Bool.eq_false_iff.2 shown
    obtain ⟨noBackground, noSprites⟩ := Bool.or_eq_false_iff.1 onEq
    have kept : dot.2 = c := by
      show (spritePixel cfg (bgPixel cfg c p px).2 p px s).2 = c
      rw [bgPixel_off cfg c (.inl noBackground), spritePixel_off cfg c s (.inl noSprites)]
    have index : (0 : BitVec 5).toNat = idx := (if_pos onEq).symm
    have miss : (p.sprite0Hit ||
        decide (on = true ∧ bg.1.pix ≠ 0 ∧ sp.pix ≠ 0 ∧ px ≠ 255 ∧ sp.isZero = true)) = p.sprite0Hit := by simp [onEq]
    rw [if_neg shown, Ppu.colour_eq, index, kept, miss]
    rfl

end Sys2Proof.Machine
end

section
/-! PROOFS. Reset field by field, and power-on (10_state.md R50; 61_platform_devices.md R364; 70_reset_and_hazards.md R380,
R381). -/

namespace Sys2Proof.Machine

/-! ### The cartridge -/

/-- A reset keeps all of the no-bank-switching cartridge (R50). -/
theorem Cart.afterReset_of_plain {c : Cart} (h : c.mapper = .noBankSwitching) : c.afterReset = c := by
  obtain ⟨p, rfl⟩ := Cart.mapper_plain h
  rfl

theorem Cart.atPowerOn_plain (q : PlainCart) :
    (Cart.plain q).atPowerOn = .plain { q with chr := if q.chrIsRam then [] else q.chr } := by
  dsimp only [Cart.atPowerOn]
  split <;> rfl

/-- A cartridge the loader may hand over has its CHR RAM zero already, so power-on changes nothing (R364, R381). -/
theorem PlainCart.launchable.atPowerOn {q : PlainCart} (h : q.launchable) : (Cart.plain q).atPowerOn = .plain q := by
  obtain ⟨-, zero⟩ := h
  rw [Cart.atPowerOn_plain, ite_eq_right_iff.2 fun ram => (zero ram).symm]

/-! ### The reset -/

/-- The two bus reads of the reset vector: the word they make, and the cartridge they leave (R380). -/
theorem resetVector_reads (s : State) :
    let low := memRead 0xFFFC s
    let high := memRead 0xFFFD low.2
    s.cart.readWord resetVector = (w16 high.1 low.1, high.2.cart) := by
  have inCart : 0x4020 ≤ (0xFFFC : Word).toNat ∧ 0x4020 ≤ (0xFFFD : Word).toNat := by decide
  simp only [memRead_cart inCart.1, memRead_cart inCart.2]
  rfl

/-- Reset as one update, its 21 dots run: they only move the cleared PPU (R380). -/
theorem hostReset_ticked (s : State) :
    hostReset s = { s with
      cpu  := Cpu.afterReset s.params (s.cart.afterReset.readWord resetVector).1
      ram  := []
      ppu  := Ppu.clearedAt 21
      pad1 := s.pad1.reset
      pad2 := s.pad2.reset
      cart := (s.cart.afterReset.readWord resetVector).2 } := by
  rw [hostReset_eq, Ppu.clearedAt_ticks _ _ 21 (n := 0) (by decide)]

theorem hostReset_plainCart {s : State} (h : s.plainCart) : (hostReset s).cart = s.cart := by
  rw [hostReset_ticked, Cart.afterReset_of_plain h]
  exact (s.cart.readWord_read resetVector).of_plain h

/-- A launched no-bank-switching cartridge is as it was at power-on. -/
theorem launch_cart_plain (cfg : Params) (q : PlainCart) :
    (launch cfg (.plain q)).cart = (Cart.plain q).atPowerOn :=
  hostReset_plainCart (by rw [State.plainCart, Cart.atPowerOn_plain]; rfl)

/-- Settles O54: `hostReset_ticked` gives each field, with the vector read on the bus (`resetVector_reads`), and a launch is
the reset of a machine with the cartridge at power-on. -/
theorem resetClearsAndKeeps : Obligations.ResetClearsAndKeeps := by
  refine ⟨fun cfg c => ⟨rfl, launch_params cfg c, ?_, ?_⟩, fun s => ?_⟩
  · rintro q rfl
    have launched := launch_cart_plain cfg q
    exact ⟨launched.trans (Cart.atPowerOn_plain q), fun ready => launched.trans ready.atPowerOn⟩
  · rintro q rfl
    rw [Cart.atPowerOn, List.map_const']
  · intro t low high
    have vector : s.cart.afterReset.readWord resetVector = (w16 high.1 low.1, high.2.cart) :=
      resetVector_reads { s with cart := s.cart.afterReset }
    have update : t = _ := hostReset_ticked s
    rw [vector] at update
    have cart : s.plainCart → t.cart = s.cart := hostReset_plainCart
    have other : ∀ q, s.cart = .other q →
        ∃ b r, s.cart.afterReset = .other { q with bank := b, own := { q.own with rest := r } } := by
      intro q hq
      rw [hq]
      exact ⟨_, _, rfl⟩
    rw [update] at cart ⊢
    exact ⟨rfl, rfl, rfl, rfl, rfl, cart, other, rfl, rfl, rfl⟩

end Sys2Proof.Machine
end
